-- ==== Sys2Proof/Word.lean ====
section
/-! DEFINITION. The byte, and the fixed-length byte arrays that the spec names (R12, R90). -/

namespace Sys2Proof

/-- A byte: 8 bits, bit 7 the most significant (R12). -/
abbrev Byte := BitVec 8

/-- A frame: exactly 64 bytes, offsets 0 to 63 (R90). -/
abbrev Frame := Vector Byte 64

/-- The bytes of a frame after its three-byte header: offsets 3 to 63 (R91). -/
abbrev FrameBody := Vector Byte 61

/-- A delivery: a byte string handed over by the transport (R18, R47). -/
abbrev Delivery := List Byte

end Sys2Proof
end

