-- ==== Sys2Proof/Syntax.lean ====
section
/-! DEFINITION. The instructions: one constructor per row of spec/opcode_table.json. A HOSTOP row is an operation word (R105). A
FRAME or CMD row is a 64-byte frame whose header word matches the row (R98): its operands are the header bits that the row
leaves free and the 61 bytes after the header (log entries 1, 5). -/

namespace Sys2Proof

/-- The instructions of the opcode table, in the table's order. -/
inductive Instr where
  -- HOSTOP: written to `CTRL` by the host
  /-- `NOP`, operation word `0x00` (R108). -/
  | nop
  /-- `TRANSACT`, operation word `0x01` (R109, R174). -/
  | transact
  /-- `ENCODE`, operation word `0x02` (R110, R134). -/
  | encode
  /-- `DECODE`, operation word `0x03` (R111, R160). -/
  | decode
  -- FRAME: classes of frame
  /-- `REQ`: a frame built by the encoder, offered on the transmit port (R99). -/
  | req (type : Byte) (len : BitVec 6) (cmd : BitVec 7) (body : FrameBody)
  /-- `RSP.ACK`: a received frame with length field below 64 and bit 7 of the command byte 0 (R99). -/
  | rspAck (type : Byte) (len : BitVec 6) (cmd : BitVec 7) (body : FrameBody)
  /-- `RSP.NACK`: a received frame with length field below 64 and bit 7 of the command byte 1 (R99). -/
  | rspNack (type : Byte) (len : BitVec 6) (cmd : BitVec 7) (body : FrameBody)
  /-- `ILLEGAL.LEN64_127`: a received frame with length field 64 + `len` (R113). -/
  | illegalLen64To127 (type : Byte) (len : BitVec 6) (cmd : Byte) (body : FrameBody)
  /-- `ILLEGAL.LEN128_255`: a received frame with length field 128 + `len` (R113). -/
  | illegalLen128To255 (type : Byte) (len : BitVec 7) (cmd : Byte) (body : FrameBody)
  -- CMD: documented (`type`, `command`) pairs, request direction
  /-- `EEPROM.SETPOS`: `type = 0xa0`, `command = 0x00` (R213). -/
  | eepromSetpos (len : Byte) (body : FrameBody)
  /-- `EEPROM.READ`: `type = 0xa0`, `command = 0x02` (R214). -/
  | eepromRead (len : Byte) (body : FrameBody)
  /-- `EEPROM.WRITE`: `type = 0xa0`, `command = 0x20` (R215). -/
  | eepromWrite (len : Byte) (body : FrameBody)
  /-- `EEPROM.READAT`: `type = 0xa0`, `command = 0x23` (R216). -/
  | eepromReadat (len : Byte) (body : FrameBody)
  /-- `EEPROM.AUXREAD1`: `type = 0xa0`, `command = 0x11` (R217). -/
  | eepromAuxread1 (len : Byte) (body : FrameBody)
  /-- `EEPROM.AUXREAD2`: `type = 0xa0`, `command = 0x71` (R218). -/
  | eepromAuxread2 (len : Byte) (body : FrameBody)
  /-- `STATE.READ`: `type = 0xde`, `command = 0x31` (R219). -/
  | stateRead (len : Byte) (body : FrameBody)
  /-- `STATE.WRITE1`: `type = 0xde`, `command = 0x30` (R220). -/
  | stateWrite1 (len : Byte) (body : FrameBody)
  /-- `DPTX.CTRL1`: `type = 0x10`, `command = 0x10` (R221). -/
  | dptxCtrl1 (len : Byte) (body : FrameBody)
  /-- `DPTX.CTRL2`: `type = 0x10`, `command = 0x70` (R222). -/
  | dptxCtrl2 (len : Byte) (body : FrameBody)
  /-- `DPTX.DATA1`: `type = 0x10`, `command = 0x11` (R223). -/
  | dptxData1 (len : Byte) (body : FrameBody)
  /-- `DPTX.DATA2`: `type = 0x10`, `command = 0x71` (R224). -/
  | dptxData2 (len : Byte) (body : FrameBody)
  deriving DecidableEq, Repr

end Sys2Proof
end

