-- ==== Sys2Proof/WellFormed.lean ====
section
/-! DEFINITION. The checks that make an instruction the one of its row. Only `REQ` needs any: the operand widths of the other
rows already say what their mask says. -/

namespace Sys2Proof

/-- The twelve documented (`type`, `command`) pairs (R210 to R224). -/
def documentedPairs : List (Byte × BitVec 7) :=
  [(0xa0, 0x00), (0xa0, 0x02), (0xa0, 0x20), (0xa0, 0x23), (0xa0, 0x11), (0xa0, 0x71),
   (0xde, 0x31), (0xde, 0x30), (0x10, 0x10), (0x10, 0x70), (0x10, 0x11), (0x10, 0x71)]

/-- The pair is one of the twelve documented ones, so a request with it is an instruction of its CMD row. -/
def documented (type : Byte) (cmd : BitVec 7) : Bool :=
  documentedPairs.contains (type, cmd)

/-- The length field of a frame that an encoder builds is 1 to 61 (R99, R137). -/
def requestLength (len : Nat) : Bool :=
  decide (1 ≤ len ∧ len ≤ 61)

/-- A well-formed instruction: a `REQ` has a length field of 1 to 61 (R99) and no documented pair (log entry 4). -/
def Instr.wf : Instr → Bool
  | .req type len cmd _ => requestLength len.toNat && !documented type cmd
  | .nop | .transact | .encode | .decode => true
  | .rspAck _ _ _ _ | .rspNack _ _ _ _ => true
  | .illegalLen64To127 _ _ _ _ | .illegalLen128To255 _ _ _ _ => true
  | .eepromSetpos _ _ | .eepromRead _ _ | .eepromWrite _ _ | .eepromReadat _ _ => true
  | .eepromAuxread1 _ _ | .eepromAuxread2 _ _ | .stateRead _ _ | .stateWrite1 _ _ => true
  | .dptxCtrl1 _ _ | .dptxCtrl2 _ _ | .dptxData1 _ _ | .dptxData2 _ _ => true

end Sys2Proof
end

