-- ==== Sys2Proof/Decode.lean ====
section
/-! DEFINITION. The decoder of the opcode map, total on any bytes, and the encoder. An instruction is read at one of three ports
(log entry 1): an operation word at `CTRL` (R105), a request frame at the transmit port, a received frame at the receive port.
The port tells apart the rows that share a bit pattern (R99: "only the direction tells them apart"). -/

namespace Sys2Proof

/-- Where the machine reads an instruction from. -/
inductive Port where
  | ctrl      -- the host's write to `CTRL` (R105)
  | transmit  -- the frame the engine offers to the transport (R80)
  | receive   -- the delivery the engine takes (R81)
  deriving DecidableEq, Repr

/-- Why bytes are no instruction at a port. -/
inductive DecodeError where
  | reservedBits   -- an operation word with a bit of 7:2 set (R112)
  | wrongSize      -- not one byte at `CTRL`, not 64 bytes at a frame port (R104, R113)
  | nackInRequest  -- a request with bit 7 of the command byte set (R115)
  | requestLength  -- a request whose length field no encoder produces (R99, R114)
  deriving DecidableEq, Repr

/-- The operation words (R108 to R112). -/
def decodeOpWord (w : Byte) : Except DecodeError Instr :=
  if w = 0x00 then .ok .nop
  else if w = 0x01 then .ok .transact
  else if w = 0x02 then .ok .encode
  else if w = 0x03 then .ok .decode
  else .error .reservedBits

/-- The CMD row of a request header, whatever its length byte: the rows' mask is `0xff00ff` (R120, R213 to R224). -/
def commandRow (type len cmd : Byte) (body : FrameBody) : Option Instr :=
  if type = 0xa0 then
    if cmd = 0x00 then some (.eepromSetpos len body)
    else if cmd = 0x02 then some (.eepromRead len body)
    else if cmd = 0x20 then some (.eepromWrite len body)
    else if cmd = 0x23 then some (.eepromReadat len body)
    else if cmd = 0x11 then some (.eepromAuxread1 len body)
    else if cmd = 0x71 then some (.eepromAuxread2 len body)
    else none
  else if type = 0xde then
    if cmd = 0x31 then some (.stateRead len body)
    else if cmd = 0x30 then some (.stateWrite1 len body)
    else none
  else if type = 0x10 then
    if cmd = 0x10 then some (.dptxCtrl1 len body)
    else if cmd = 0x70 then some (.dptxCtrl2 len body)
    else if cmd = 0x11 then some (.dptxData1 len body)
    else if cmd = 0x71 then some (.dptxData2 len body)
    else none
  else none

/-- The CMD row that a received frame answers: its mask is `0xff007f`, the nack bit left out (R120). It tells a reader what a
response is about; no rule of the engine uses it (R192, R212). -/
def answeredCommand (type len cmd : Byte) (body : FrameBody) : Option Instr :=
  commandRow type len (cmd &&& 0x7f) body

/-- A frame in the request direction: a documented pair is its CMD row, any other frame that an encoder builds is `REQ`
(R99, R120, log entry 4). -/
def decodeTransmit (type len cmd : Byte) (body : FrameBody) : Except DecodeError Instr :=
  match commandRow type len cmd body with
  | some i => .ok i
  | none =>
    if cmd.msb then .error .nackInRequest
    else if requestLength len.toNat then .ok (.req type (len.setWidth 6) (cmd.setWidth 7) body)
    else .error .requestLength

/-- A received frame by its length field and its nack bit (R99, R113, R120). -/
def decodeReceive (type len cmd : Byte) (body : FrameBody) : Instr :=
  if len.getLsbD 7 then .illegalLen128To255 type (len.setWidth 7) cmd body
  else if len.getLsbD 6 then .illegalLen64To127 type (len.setWidth 6) cmd body
  else if cmd.msb then .rspNack type (len.setWidth 6) (cmd.setWidth 7) body
  else .rspAck type (len.setWidth 6) (cmd.setWidth 7) body

/-- The instruction that a port reads from bytes, lowest offset first. -/
def decode (p : Port) (bytes : List Byte) : Except DecodeError Instr :=
  match p, bytes with
  | .ctrl, [w] => decodeOpWord w
  | .ctrl, _ => .error .wrongSize
  | .transmit, type :: len :: cmd :: rest =>
    if h : rest.length = 61 then decodeTransmit type len cmd ⟨rest.toArray, h⟩ else .error .wrongSize
  | .receive, type :: len :: cmd :: rest =>
    if h : rest.length = 61 then .ok (decodeReceive type len cmd ⟨rest.toArray, h⟩) else .error .wrongSize
  | _, _ => .error .wrongSize

/-- The port at which an instruction is read. -/
def Instr.port : Instr → Port
  | .nop | .transact | .encode | .decode => .ctrl
  | .req _ _ _ _ => .transmit
  | .rspAck _ _ _ _ | .rspNack _ _ _ _ => .receive
  | .illegalLen64To127 _ _ _ _ | .illegalLen128To255 _ _ _ _ => .receive
  | .eepromSetpos _ _ | .eepromRead _ _ | .eepromWrite _ _ | .eepromReadat _ _ => .transmit
  | .eepromAuxread1 _ _ | .eepromAuxread2 _ _ | .stateRead _ _ | .stateWrite1 _ _ => .transmit
  | .dptxCtrl1 _ _ | .dptxCtrl2 _ _ | .dptxData1 _ _ | .dptxData2 _ _ => .transmit

/-- The bytes of an instruction, lowest offset first, from the encodings of 30_encoding.md and 43_command_space.md. -/
def encode : Instr → List Byte
  | .nop => [0x00]
  | .transact => [0x01]
  | .encode => [0x02]
  | .decode => [0x03]
  | .req type len cmd body => type :: len.setWidth 8 :: cmd.setWidth 8 :: body.toList
  | .rspAck type len cmd body => type :: len.setWidth 8 :: cmd.setWidth 8 :: body.toList
  | .rspNack type len cmd body => type :: len.setWidth 8 :: (cmd.setWidth 8 ||| 0x80) :: body.toList
  | .illegalLen64To127 type len cmd body => type :: (len.setWidth 8 ||| 0x40) :: cmd :: body.toList
  | .illegalLen128To255 type len cmd body => type :: (len.setWidth 8 ||| 0x80) :: cmd :: body.toList
  | .eepromSetpos len body => 0xa0 :: len :: 0x00 :: body.toList
  | .eepromRead len body => 0xa0 :: len :: 0x02 :: body.toList
  | .eepromWrite len body => 0xa0 :: len :: 0x20 :: body.toList
  | .eepromReadat len body => 0xa0 :: len :: 0x23 :: body.toList
  | .eepromAuxread1 len body => 0xa0 :: len :: 0x11 :: body.toList
  | .eepromAuxread2 len body => 0xa0 :: len :: 0x71 :: body.toList
  | .stateRead len body => 0xde :: len :: 0x31 :: body.toList
  | .stateWrite1 len body => 0xde :: len :: 0x30 :: body.toList
  | .dptxCtrl1 len body => 0x10 :: len :: 0x10 :: body.toList
  | .dptxCtrl2 len body => 0x10 :: len :: 0x70 :: body.toList
  | .dptxData1 len body => 0x10 :: len :: 0x11 :: body.toList
  | .dptxData2 len body => 0x10 :: len :: 0x71 :: body.toList

/-- The header word `H = byte0 * 65536 + byte1 * 256 + byte2` of a frame (R98). -/
def headerWord (bytes : List Byte) : BitVec 24 :=
  bytes.getD 0 0 ++ bytes.getD 1 0 ++ bytes.getD 2 0

/-- The mask of an instruction's row of the opcode table, on the header word; none for an operation word (R120). -/
def Instr.rowMask : Instr → BitVec 24
  | .nop | .transact | .encode | .decode => 0
  | .req _ _ _ _ | .rspAck _ _ _ _ | .rspNack _ _ _ _ => 0x00c080
  | .illegalLen64To127 _ _ _ _ => 0x00c000
  | .illegalLen128To255 _ _ _ _ => 0x008000
  | .eepromSetpos _ _ | .eepromRead _ _ | .eepromWrite _ _ | .eepromReadat _ _ => 0xff00ff
  | .eepromAuxread1 _ _ | .eepromAuxread2 _ _ | .stateRead _ _ | .stateWrite1 _ _ => 0xff00ff
  | .dptxCtrl1 _ _ | .dptxCtrl2 _ _ | .dptxData1 _ _ | .dptxData2 _ _ => 0xff00ff

/-- The match of an instruction's row of the opcode table, on the header word; none for an operation word (R120). -/
def Instr.rowMatch : Instr → BitVec 24
  | .nop | .transact | .encode | .decode => 0
  | .req _ _ _ _ | .rspAck _ _ _ _ => 0x000000
  | .rspNack _ _ _ _ => 0x000080
  | .illegalLen64To127 _ _ _ _ => 0x004000
  | .illegalLen128To255 _ _ _ _ => 0x008000
  | .eepromSetpos _ _ => 0xa00000
  | .eepromRead _ _ => 0xa00002
  | .eepromWrite _ _ => 0xa00020
  | .eepromReadat _ _ => 0xa00023
  | .eepromAuxread1 _ _ => 0xa00011
  | .eepromAuxread2 _ _ => 0xa00071
  | .stateRead _ _ => 0xde0031
  | .stateWrite1 _ _ => 0xde0030
  | .dptxCtrl1 _ _ => 0x100010
  | .dptxCtrl2 _ _ => 0x100070
  | .dptxData1 _ _ => 0x100011
  | .dptxData2 _ _ => 0x100071

/-- A frame matches a row when `H AND mask = match` (R98). -/
def Instr.rowMatches (i : Instr) (bytes : List Byte) : Bool :=
  headerWord bytes &&& i.rowMask == i.rowMatch

/-- The 64 bytes of a frame whose header word is `w`, every byte after the header 0 (R98, log entry 5). -/
def tableFrame (w : Nat) : List Byte :=
  BitVec.ofNat 8 (w / 65536) :: BitVec.ofNat 8 (w / 256) :: BitVec.ofNat 8 w :: List.replicate 61 0

/-- The instruction that the decoder reads from a table word: an operation word of 8 bits, or the header word of a frame, read
first in the request direction and, where that is no request, in the response direction (log entry 4). -/
def decodeTableWord (nbits w : Nat) : Option Instr :=
  if nbits = 8 then (decode .ctrl [BitVec.ofNat 8 w]).toOption
  else if nbits = 24 then
    match decode .transmit (tableFrame w) with
    | .ok i => some i
    | .error _ => (decode .receive (tableFrame w)).toOption
  else none

end Sys2Proof
end

