-- ==== Sys2Proof/Config.lean ====
section
/-! DEFINITION. The parameters of the spec (R9, R10, R11) and the values it leaves open. A parameter that the spec fixes is a
constant with its value; one that it leaves open is an opaque constant, so that a statement about it holds whatever it is. -/

namespace Sys2Proof

/-- The two treatments of a received length field of 0, 62 or 63 (R11, R114, R157). -/
inductive LenEdgePolicy where
  | clamp   -- accepted, the payload cut at the end of the frame
  | reject  -- `FRAME_LENGTH_ERROR/LEN_EDGE`
  deriving DecidableEq, Repr, Inhabited

/-- What a host's read does with an acknowledged chunk of another size than asked for: the source does not say (R237). -/
inductive WrongSizePolicy where
  | accept       -- the bytes are returned as they are
  | abortAtOnce  -- the read fails with that chunk
  | abortAtEnd   -- the read fails after its last chunk if the total is not the one asked for
  deriving DecidableEq, Repr, Inhabited

/-- How a write ends when ten polls failed and not all of them were nacks: the source does not say (R246, R247). -/
inductive SilentPollsPolicy where
  | busyTimeout    -- as if all ten had been nacks
  | transferAbort  -- with the first failure among them
  deriving DecidableEq, Repr, Inhabited

/-- The commands that come in pairs `x/y`, one value for each of the two outputs (R217, R218, R221 to R225). -/
inductive PairedCommand where
  | auxRead  -- `type = 0xa0`, `0x11`/`0x71`
  | control  -- `type = 0x10`, `0x10`/`0x70`
  | data     -- `type = 0x10`, `0x11`/`0x71`
  deriving DecidableEq, Repr

namespace Config

/-- `FRAME_LEN` (R9). -/
@[simp] abbrev frameLen : Nat := 64
/-- `MAX_PAYLOAD` (R9). -/
@[simp] abbrev maxPayload : Nat := 60
/-- `HDR_LEN` (R9). -/
@[simp] abbrev hdrLen : Nat := 3
/-- `LEN_LIMIT` (R9). -/
@[simp] abbrev lenLimit : Nat := 64
/-- `DEFAULT_TIMEOUT_MS` (R9). -/
@[simp] abbrev defaultTimeoutMs : Nat := 250
/-- `RX_MAX`, the longest byte string one delivery can carry (R11). -/
@[simp] abbrev rxMax : Nat := 255
/-- The most bytes of one read chunk, and the default (R10, R231). -/
@[simp] abbrev readChunkMax : Nat := 60
/-- The most bytes of one write chunk, and the default (R10, R231). -/
@[simp] abbrev writeChunkMax : Nat := 32
/-- The most poll transactions after a written chunk (R10, R246). -/
@[simp] abbrev maxPolls : Nat := 10

/-- `LEN_EDGE_POLICY`, left open by the spec (R11, R157, U4). DESIGN CHOICE, log entry 7: opaque, so safe. -/
opaque lenEdgePolicy : LenEdgePolicy

/-- Whether a host transfer of size 0 issues one empty request or none (R233). DESIGN CHOICE, log entry 20: opaque, so safe. -/
opaque emptyTransferAsks : Bool

/-- How a write ends after ten failed polls that were not all nacks (R246, R247). DESIGN CHOICE, log entry 32: opaque, so safe. -/
opaque silentPollsPolicy : SilentPollsPolicy

/-- What the reader does with data of another size than asked for (R237). DESIGN CHOICE, log entry 28: opaque, so safe. -/
opaque wrongSizePolicy : WrongSizePolicy

/-- Whether the first value of a pair `x/y` addresses output 1: the source does not say (R225). DESIGN CHOICE, log entry 30:
opaque for each pair, so safe. -/
opaque firstIsOutputOne : PairedCommand → Bool

/-- The text that the eight bytes of a serial stand for: the source names no character set (R252). DESIGN CHOICE, log entry 31:
opaque, so safe. -/
opaque serialText : Vector Byte 8 → String

/-- Whether the flow of R256 reports success when only its restore failed (R261). DESIGN CHOICE, log entry 20: opaque, so safe. -/
opaque failedRestoreIsSuccess : Bool

end Config
end Sys2Proof
end

