-- ==== Sys2Proof/Machine/Codec.lean ====
section
/-! DEFINITION. Byte strings, the sum and checksum of bytes, and the two pure functions of PacketCodec: `encode` (R130) and
`decode` (R152). They read no state and write none (R130, R168). -/

namespace Sys2Proof.Machine

/-- `sum(s)`: the sum of the bytes as a natural number (R13). -/
def sumNat : List Byte → Nat
  | [] => 0
  | b :: bs => b.toNat + sumNat bs

/-- `sum8(s) = sum(s) mod 256` (R13, R165). -/
def sum8 (s : List Byte) : Nat := sumNat s % 256

/-- The checksum of the bytes before it: `(256 - sum8(s)) mod 256` (R101, R136). -/
def checksum (s : List Byte) : Byte := BitVec.ofNat 8 ((256 - sum8 s) % 256)

/-- `s[a ..< b]`, empty when `b <= a` (R13). -/
def slice (a b : Nat) (s : List Byte) : List Byte := (s.take b).drop a

/-- An array of `n` bytes whose first bytes are those of `s` and whose other bytes are 0: how a buffer takes a byte string
(R40, R97, R158). -/
def fit (n : Nat) (s : List Byte) : Vector Byte n :=
  ⟨(s.take n ++ List.replicate (n - s.length) 0).toArray, by simp; omega⟩

/-- The bytes of a frame before its checksum: type, length `n + 1`, command, payload (R91, R100). -/
def packetHead (type command : Byte) (payload : List Byte) : List Byte :=
  type :: BitVec.ofNat 8 (payload.length + 1) :: command :: payload

/-- The bytes of `encode(type, command, payload)`: the head, the checksum of the head, and zeros up to offset 63 (R130). -/
def packetBytes (type command : Byte) (payload : List Byte) : List Byte :=
  packetHead type command payload ++ [checksum (packetHead type command payload)]
    ++ List.replicate (Config.maxPayload - payload.length) 0

/-- `encode(type, command, payload)`, a frame of exactly 64 bytes (R130); its legal domain is a command with bit 7 = 0 and at
most 60 payload bytes, which the operations check before they call it (R132, R133). -/
def packetEncode (type command : Byte) (payload : List Byte) : Frame :=
  fit 64 (packetBytes type command payload)

/-- A decoded packet (R15, R150). -/
structure Packet where
  type : Byte
  ack : Bool
  command : BitVec 7
  payload : List Byte
  deriving DecidableEq, Repr

/-- Which shape check a delivery failed (R272). -/
inductive ShapeError where
  | rxSize    -- not exactly 64 bytes (R151)
  | lenField  -- length field 64 or more (R153)
  | lenEdge   -- length field 0, 62 or 63 under `reject` (R157)
  deriving DecidableEq, Repr

/-- The three kinds of result of `decode` (R150). -/
inductive DecodeResult where
  | ok (p : Packet)
  | checksumError
  | frameLengthError (e : ShapeError)
  deriving DecidableEq, Repr

/-- The length-field values that pass the shape check but that no encoder produces (R114). -/
def lenEdgeValue (len : Nat) : Bool := len == 0 || len == 62 || len == 63

/-- The ack flag of a command byte: bit 7 is 0 (R102, R155). -/
def ackFlag (command : Byte) : Bool := !command.getLsbD 7

/-- The command number of a command byte: bits 6:0 (R102, R155). -/
def commandNumber (command : Byte) : BitVec 7 := command.setWidth 7

/-- The fields of a frame that passed every check; the payload is `d[3 ..< min(L + 2, 64)]` (R152, R155, R156, R157). -/
def packetFields (d : Delivery) : Packet where
  type := d.getD 0 0
  ack := ackFlag (d.getD 2 0)
  command := commandNumber (d.getD 2 0)
  payload := slice Config.hdrLen (min ((d.getD 1 0).toNat + 2) Config.frameLen) d

/-- `decode(d)` with the checks in the order of R152 and R164, under either value of `LEN_EDGE_POLICY`. -/
def packetDecode (policy : LenEdgePolicy) (d : Delivery) : DecodeResult :=
  if d.length ≠ Config.frameLen then .frameLengthError .rxSize
  else if Config.lenLimit ≤ (d.getD 1 0).toNat then .frameLengthError .lenField
  else if lenEdgeValue (d.getD 1 0).toNat = true ∧ policy = .reject then .frameLengthError .lenEdge
  else if sum8 d ≠ 0 then .checksumError
  else .ok (packetFields d)

end Sys2Proof.Machine
end

