-- ==== Sys2Proof/Machine/State.lean ====
section
/-! DEFINITION. The state of the engine and of the transport it is attached to (R20, R47, R171), the moves of the outside
agents, and the state after reset (R48). Plain data throughout. -/

namespace Sys2Proof.Machine

/-- The sequencer register `PHASE`: value 3 never occurs (R42). -/
inductive Phase where
  | idle  -- 0: no transaction in flight
  | send  -- 1: the frame in `TXBUF` is offered to the transport
  | wait  -- 2: the frame was taken; a delivery or the timer is awaited
  deriving DecidableEq, Repr

/-- The values of `RESULT`: 8 to 255 never occur (R33). -/
inductive Result where
  | none | ack | nack | noResponse | frameLengthError | badRequest | encoded | noPacket
  deriving DecidableEq, Repr

/-- The values of `CAUSE`: 10 to 255 never occur (R34). -/
inductive Cause where
  | none | timeout | emptyDelivery | checksum | rxSize | lenField | lenEdge | payloadTooLong | cmdBit7 | badOp
  deriving DecidableEq, Repr

/-- The steps of R171 that no host access makes. -/
inductive EngineMove where
  | send           -- the transport is ready (`tx_ready = 1`): the send step where `PHASE = SEND` (R80, R181)
  | take           -- the engine's take step (R184)
  | tick           -- one pulse of `tick_1ms` (R82, R187)
  | expire         -- the engine's expiry step with the timer at 0 (R188)
  | expireUntimed  -- the expiry step of a model without time: the timer is not asked (R190, log entry 11)
  deriving DecidableEq, Repr

/-- One move of an agent (R3, R171). The moves come from outside the engine; State holds those that are still to come. -/
inductive Move where
  | read (addr : BitVec 9)                       -- the host's `MemRead(addr, 1)` (R60)
  | write (addr : BitVec 9) (v : Byte)           -- the host's `MemWrite(addr, 1, v)` (R60)
  | engine (m : EngineMove)                      -- a step of the engine, the transport or the timer
  | statusWriteWith (v : Byte) (m : EngineMove)  -- a host write to `STATUS` in the same step as an engine step (R76, R284)
  | deliver (d : Delivery)                       -- the device appends a delivery to `RXQ` (R47)
  | reset (taken : Bool)                         -- `rst`; `taken`: in `SEND`, the transport took the frame as reset came (R312, U14)
  | idle                                         -- no agent acts
  deriving DecidableEq, Repr

/-- A stop of the machine. The spec gives this hardware none: every error is a value of `RESULT` and `CAUSE` (R282), and no host
access raises anything (R62). Log entry 23. -/
inductive Fault where
  deriving DecidableEq, Repr

/-- A step that the model does not take. -/
inductive Refusal where
  /-- Raised by an arm of `exec` for an instruction without a meaning; no arm does so. Safe. -/
  | notModelled (mnemonic : String)
  deriving DecidableEq, Repr

/-- The state. Each field cites the rule that names it. -/
structure State where
  -- request registers
  /-- `REQ_TYPE` (R22). -/
  reqType : Byte
  /-- `REQ_CMD` (R23). -/
  reqCmd : Byte
  /-- `REQ_PLEN` (R24). -/
  reqPlen : Byte
  /-- `REQ_PAYLOAD[0..59]` (R25). -/
  reqPayload : Vector Byte 60
  -- timeout register
  /-- `TIMEOUT_MS` (R27). -/
  timeoutMs : BitVec 16
  -- response registers
  /-- `RSP_TYPE` (R28). -/
  rspType : Byte
  /-- `RSP_CMD`: bits 6:0, bit 7 always reads 0 (R29). -/
  rspCmd : BitVec 7
  /-- `RSP_ACK` (R30). -/
  rspAck : Bool
  /-- `RSP_PLEN` (R31). -/
  rspPlen : Byte
  /-- `RSP_PAYLOAD[0..60]` (R32). -/
  rspPayload : Vector Byte 61
  -- result registers
  /-- `RESULT` (R33). -/
  result : Result
  /-- `CAUSE` (R34). -/
  cause : Cause
  -- status register: `BUSY` is a function of `PHASE`
  /-- `STATUS.DONE`, bit 1 (R36). -/
  done : Bool
  /-- `STATUS.CHKERR`, bit 2, sticky (R36, R37). -/
  chkerr : Bool
  /-- `STATUS.OVR`, bit 3, sticky (R36, R73). -/
  ovr : Bool
  -- frame buffers
  /-- `TXBUF[0..63]` (R39). -/
  txbuf : Frame
  /-- `RXBUF[0..63]` (R40). -/
  rxbuf : Vector Byte 64
  /-- `RX_COUNT` (R41). -/
  rxCount : Byte
  -- sequencer and timer
  /-- `PHASE` (R42). -/
  phase : Phase
  /-- `TIMER`, hidden (R44, R292). -/
  timer : BitVec 16
  -- the transport agent, outside the engine
  /-- `TXLOG`: the frames the transport has accepted, oldest first (R47). -/
  txlog : List Frame
  /-- `RXQ`: the deliveries the transport holds, oldest first; unbounded (R47, log entry 8). -/
  rxq : List Delivery
  -- the model's own
  /-- The host's side of the port: what its last read returned (R79, log entry 14). -/
  hostData : Byte
  /-- The moves still to come, oldest first (R74, log entry 2). -/
  inputs : List Move
  deriving DecidableEq, Repr

/-- The state right after reset (R48, R310). `TXLOG` and `RXQ`, which reset does not determine, are empty here (DESIGN CHOICE,
log entry 9, unsafe); `hostData` and `inputs` are the model's own (log entries 2, 14). -/
def State.reset : State where
  reqType := 0x00
  reqCmd := 0x00
  reqPlen := 0
  reqPayload := Vector.replicate 60 0
  timeoutMs := 250
  rspType := 0x00
  rspCmd := 0
  rspAck := false
  rspPlen := 0
  rspPayload := Vector.replicate 61 0
  result := .none
  cause := .none
  done := false
  chkerr := false
  ovr := false
  txbuf := Vector.replicate 64 0
  rxbuf := Vector.replicate 64 0
  rxCount := 0
  phase := .idle
  timer := 0
  txlog := []
  rxq := []
  hostData := 0
  inputs := []

end Sys2Proof.Machine
end

