-- ==== Sys2Proof/Machine/Flags.lean ====
section
/-! DEFINITION. The status register and the codes that the host reads. The ack flag and the checksum test of a frame are in
Codec. -/

namespace Sys2Proof.Machine

/-- `STATUS.BUSY`: 1 exactly while `PHASE` is `SEND` or `WAIT` (R36). -/
def State.busy (s : State) : Bool := s.phase != .idle

/-- The byte that a read of `STATUS` returns; bits 7:4 read 0 (R36). -/
def State.statusByte (s : State) : Byte :=
  0#4 ++ BitVec.ofBool s.ovr ++ BitVec.ofBool s.chkerr ++ BitVec.ofBool s.done ++ BitVec.ofBool s.busy

/-- A host write to `STATUS`: each of `DONE`, `CHKERR`, `OVR` whose written bit is 1 is cleared, in every phase (R36). -/
def State.writeStatus (v : Byte) (s : State) : State :=
  { s with
    done := s.done && !v.getLsbD 1
    chkerr := s.chkerr && !v.getLsbD 2
    ovr := s.ovr && !v.getLsbD 3 }

/-- The code of a `RESULT` (R33). -/
def Result.code : Result → Byte
  | .none => 0
  | .ack => 1
  | .nack => 2
  | .noResponse => 3
  | .frameLengthError => 4
  | .badRequest => 5
  | .encoded => 6
  | .noPacket => 7

/-- The code of a `CAUSE` (R34). -/
def Cause.code : Cause → Byte
  | .none => 0
  | .timeout => 1
  | .emptyDelivery => 2
  | .checksum => 3
  | .rxSize => 4
  | .lenField => 5
  | .lenEdge => 6
  | .payloadTooLong => 7
  | .cmdBit7 => 8
  | .badOp => 9

/-- The code of a `PHASE`: bits 1:0, bits 7:2 read 0 (R42, R61). -/
def Phase.code : Phase → Byte
  | .idle => 0
  | .send => 1
  | .wait => 2

/-- The cause that a failed shape check reports (R272). -/
def ShapeError.cause : ShapeError → Cause
  | .rxSize => .rxSize
  | .lenField => .lenField
  | .lenEdge => .lenEdge

/-- The result that an accepted packet reports (R161, R186). -/
def Packet.result (p : Packet) : Result := if p.ack then .ack else .nack

end Sys2Proof.Machine
end

