-- ==== Sys2Proof/Machine/Operands.lean ====
section
/-! DEFINITION. The operand forms: the request registers (R174), the delivery held in `RXBUF` and `RX_COUNT` (R160), and the
bytes of a frame carried by an instruction (R98). -/

namespace Sys2Proof.Machine

/-- The `payload` operand `REQ_PAYLOAD[0..<REQ_PLEN]` (R25). -/
def State.requestPayload (s : State) : List Byte := s.reqPayload.toList.take s.reqPlen.toNat

/-- The frame of the request registers: `encode(REQ_TYPE, REQ_CMD, REQ_PAYLOAD[0..<REQ_PLEN])` (R131). -/
def State.requestFrame (s : State) : Frame := packetEncode s.reqType s.reqCmd s.requestPayload

/-- What is wrong with a request, the payload length before the command bit (R132, R133, R135). -/
def State.requestCause (s : State) : Option Cause :=
  if Config.maxPayload < s.reqPlen.toNat then some .payloadTooLong
  else if 0x80 ≤ s.reqCmd.toNat then some .cmdBit7
  else none

/-- The delivery that `DECODE` decodes: `RX_COUNT` bytes, the first 64 of them in `RXBUF` (R160). The bytes beyond, which never
matter, are 0 here (log entry 18). -/
def State.heldDelivery (s : State) : Delivery :=
  s.rxbuf.toList.take s.rxCount.toNat ++ List.replicate (s.rxCount.toNat - 64) 0

/-- The 64 bytes of a frame from its bytes, lowest offset first (R90). -/
def frameOf (bytes : List Byte) : Frame := fit 64 bytes

/-- `tx_valid`: a frame is offered on the transmit port (R45, R80). -/
def State.txValid (s : State) : Bool := s.phase == .send

/-- `tx_frame` (R45, R80). -/
def State.txFrame (s : State) : Frame := s.txbuf

/-- `rx_ready`: the engine takes a delivery (R45, R81). -/
def State.rxReady (s : State) : Bool := s.phase == .wait

end Sys2Proof.Machine
end

