-- ==== Sys2Proof/Machine/Ops.lean ====
section
/-! DEFINITION. The named operations over the state. Reporting an error is ONE operation, `State.raise` (R14, R282), and the end
of a transaction is `State.finish`, which is the same report with `PHASE <- IDLE`; nothing else is saved and control goes
nowhere, so there is no return to model (R282, R286). -/

namespace Sys2Proof.Machine

/-- `raise E(cause)`: `RESULT <- E`, `CAUSE <- cause`, `STATUS.DONE <- 1` (R14, R282). The operations that complete in their own
step report their result by it too (R134, R160). -/
def State.raise (r : Result) (c : Cause) (s : State) : State :=
  { s with result := r, cause := c, done := true }

/-- The end of a transaction: the report, with `PHASE <- IDLE` (R184, R188, R282). -/
def State.finish (r : Result) (c : Cause) (s : State) : State :=
  { s.raise r c with phase := .idle }

/-- A host write refused while a transaction is in flight: ignored, `STATUS.OVR <- 1` (R73, R278). -/
def State.refuseBusy (s : State) : State := { s with ovr := true }

/-- The response registers, all cleared (R32). -/
def State.clearResponse (s : State) : State :=
  { s with
    rspType := 0, rspCmd := 0, rspAck := false, rspPlen := 0
    rspPayload := Vector.replicate 61 0 }

/-- The response registers of a decoded packet; the payload bytes beyond its length are 0 (R158). -/
def State.writeResponse (p : Packet) (s : State) : State :=
  { s with
    rspType := p.type
    rspCmd := p.command
    rspAck := p.ack
    rspPlen := BitVec.ofNat 8 p.payload.length
    rspPayload := fit 61 p.payload }

/-- The taken delivery: `RX_COUNT <- len(d)`, `RXBUF` the first 64 bytes, zero-filled (R40, R41, R184). A length above 255
reads 255 (U16, log entry 13). -/
def State.loadDelivery (d : Delivery) (s : State) : State :=
  { s with
    rxCount := BitVec.ofNat 8 (min d.length Config.rxMax)
    rxbuf := fit 64 d }

/-- `RXBUF` and `RX_COUNT`, cleared (R40, R41). -/
def State.clearDelivery (s : State) : State :=
  { s with rxCount := 0, rxbuf := Vector.replicate 64 0 }

/-- `TXBUF <- encode(...)`, all 64 bytes in one step (R131). -/
def State.loadRequestFrame (s : State) : State := { s with txbuf := s.requestFrame }

/-- Accepted start of a transaction (R176). `CHKERR`, `OVR` and `RXQ` are not touched. -/
def State.startTransaction (s : State) : State :=
  { s.loadRequestFrame.clearResponse.clearDelivery with
    result := .none, cause := .none, done := false, phase := .send }

/-- A request is checked before an operation encodes it; a bad one is refused with its cause and nothing else changes
(R132, R133, R175, R177). -/
def State.withCheckedRequest (s : State) (accepted : State) : State :=
  match s.requestCause with
  | some c => s.raise .badRequest c
  | none => accepted

/-- What the checks of `decode` report inside `DECODE` (R160 to R163). -/
def State.reportDecoded (r : DecodeResult) (s : State) : State :=
  match r with
  | .ok p => (s.writeResponse p).raise p.result .none
  | .checksumError => { s with chkerr := true }.raise .noPacket .checksum
  | .frameLengthError e => s.raise .frameLengthError e.cause

/-- The classification of a non-empty delivery inside `TRANSACT`, and the end of the transaction (R186). -/
def State.classify (r : DecodeResult) (s : State) : State :=
  match r with
  | .ok p => (s.writeResponse p).finish p.result .none
  | .checksumError => { s with chkerr := true }.finish .noResponse .checksum
  | .frameLengthError e => s.finish .frameLengthError e.cause

/-- The engine takes a delivery: it is recorded, classified (an empty one without the decoder, R185), and the transaction ends
(R184 to R186). -/
def State.takeDelivery (d : Delivery) (s : State) : State :=
  match d with
  | [] => (s.loadDelivery []).finish .noResponse .emptyDelivery
  | _ :: _ => (s.loadDelivery d).classify (packetDecode Config.lenEdgePolicy d)

/-- The transport takes a frame: `TXLOG` grows by it, the timer is loaded, and the wait begins (R181, R182). -/
def State.sendFrame (f : Frame) (s : State) : State :=
  { s with txlog := s.txlog ++ [f], timer := s.timeoutMs, phase := .wait }

/-- A frame presented on the transmit port goes out exactly while `tx_valid = 1`; otherwise no state changes (R80, R181, log
entry 15). -/
def State.transmit (f : Frame) (s : State) : State :=
  if s.txValid then s.sendFrame f else s

/-- A delivery presented on the receive port, already off the head of `RXQ`: taken while `rx_ready = 1`; otherwise it stays in
the transport, where it was (R81, R184, R193, log entry 15). -/
def State.receive (d : Delivery) (s : State) : State :=
  if s.rxReady then s.takeDelivery d else { s with rxq := d :: s.rxq }

/-- A pulse of `tick_1ms`: `TIMER <- TIMER - 1` while `PHASE = WAIT` and `TIMER > 0`, else nothing (R187). -/
def State.tick (s : State) : State :=
  if s.phase = .wait ∧ s.timer ≠ 0 then { s with timer := s.timer - 1 } else s

/-- The condition of the expiry step without its timer: `PHASE = WAIT` and `RXQ` is empty (R190, R191). -/
def State.nothingToTake (s : State) : Bool := s.phase == .wait && s.rxq.isEmpty

/-- The expiry step: enabled when `PHASE = WAIT`, `TIMER = 0` and `RXQ` is empty (R188, R191). -/
def State.expire (s : State) : State :=
  if s.nothingToTake && s.timer == 0 then s.finish .noResponse .timeout else s

/-- The expiry step of a model without time: enabled when `PHASE = WAIT` and `RXQ` is empty (R190, log entry 11). -/
def State.expireUntimed (s : State) : State :=
  if s.nothingToTake then s.finish .noResponse .timeout else s

/-- The device appends a delivery to `RXQ`, in any phase (R47, R171). -/
def State.deliver (d : Delivery) (s : State) : State := { s with rxq := s.rxq ++ [d] }

/-- Reset puts every element of the engine's state at its reset value and does not reach the transport (R310, R312). In `SEND`
the frame may have been taken as reset came (`taken`, U14, log entry 10). -/
def State.hardReset (taken : Bool) (s : State) : State :=
  { State.reset with
    txlog := if taken && s.txValid then s.txlog ++ [s.txbuf] else s.txlog
    rxq := s.rxq
    hostData := s.hostData
    inputs := s.inputs }

/-- A word with a reserved bit written to `CTRL`: `BAD_REQUEST/BAD_OP` in `IDLE`, refused while busy (R112). -/
def State.badOpWord (s : State) : State :=
  if s.busy then s.refuseBusy else s.raise .badRequest .badOp

end Sys2Proof.Machine
end

