-- ==== Sys2Proof/Machine/Window.lean ====
section
/-! DEFINITION. The register window: 512 byte locations (R60, R61), and who may write them (R49, R62, R72, R73). -/

namespace Sys2Proof.Machine

/-- What stands at an address of the window (R61). -/
inductive Location where
  | ctrl | status | result | cause | reqType | reqCmd | reqPlen | phase
  | timeoutLow | timeoutHigh | rspType | rspCmd | rspAck | rspPlen | rxCount
  | reqPayload (i : Fin 60)
  | rspPayload (i : Fin 61)
  | txbuf (i : Fin 64)
  | rxbuf (i : Fin 64)
  | reserved
  deriving DecidableEq, Repr

/-- The locations of the control block, addresses `0x000` to `0x00e` (R61). -/
def controlLocation : Nat → Location
  | 0x000 => .ctrl
  | 0x001 => .status
  | 0x002 => .result
  | 0x003 => .cause
  | 0x004 => .reqType
  | 0x005 => .reqCmd
  | 0x006 => .reqPlen
  | 0x007 => .phase
  | 0x008 => .timeoutLow
  | 0x009 => .timeoutHigh
  | 0x00a => .rspType
  | 0x00b => .rspCmd
  | 0x00c => .rspAck
  | 0x00d => .rspPlen
  | 0x00e => .rxCount
  | _ => .reserved

/-- The window's map from an address, as a number, to what stands there (R61). -/
def locationAt (a : Nat) : Location :=
  if a < 0x040 then controlLocation a
  else if h : a - 0x040 < 60 then .reqPayload ⟨a - 0x040, h⟩
  else if a < 0x080 then .reserved
  else if h : a - 0x080 < 61 then .rspPayload ⟨a - 0x080, h⟩
  else if a < 0x0c0 then .reserved
  else if h : a - 0x0c0 < 64 then .txbuf ⟨a - 0x0c0, h⟩
  else if h : a - 0x100 < 64 then .rxbuf ⟨a - 0x100, h⟩
  else .reserved

/-- The window's map (R61). -/
def locate (addr : BitVec 9) : Location := locationAt addr.toNat

/-- The byte that a host read of a location returns; `CTRL` and reserved locations read `0x00` (R35, R61, R62). -/
def State.readLocation (s : State) : Location → Byte
  | .ctrl => 0x00
  | .status => s.statusByte
  | .result => s.result.code
  | .cause => s.cause.code
  | .reqType => s.reqType
  | .reqCmd => s.reqCmd
  | .reqPlen => s.reqPlen
  | .phase => s.phase.code
  | .timeoutLow => s.timeoutMs.setWidth 8
  | .timeoutHigh => (s.timeoutMs >>> 8).setWidth 8
  | .rspType => s.rspType
  | .rspCmd => s.rspCmd.setWidth 8
  | .rspAck => if s.rspAck then 1 else 0
  | .rspPlen => s.rspPlen
  | .rxCount => s.rxCount
  | .reqPayload i => s.reqPayload[i]
  | .rspPayload i => s.rspPayload[i]
  | .txbuf i => s.txbuf[i]
  | .rxbuf i => s.rxbuf[i]
  | .reserved => 0x00

/-- `MemRead(addr, 1)`: no side effect (R68). -/
def State.windowRead (addr : BitVec 9) (s : State) : Byte := s.readLocation (locate addr)

/-- The host may write the location while `PHASE = IDLE`, and only then (R49, R73). -/
def Location.idleWritable : Location → Bool
  | .reqType | .reqCmd | .reqPlen | .reqPayload _ | .timeoutLow | .timeoutHigh | .rxCount | .rxbuf _ => true
  | .ctrl | .status | .result | .cause | .phase | .rspType | .rspCmd | .rspAck | .rspPlen => false
  | .rspPayload _ | .txbuf _ | .reserved => false

/-- The byte stored at a location that the host may write in `IDLE`; any other location stores nothing (R68, R72). -/
def State.storeLocation (l : Location) (v : Byte) (s : State) : State :=
  match l with
  | .reqType => { s with reqType := v }
  | .reqCmd => { s with reqCmd := v }
  | .reqPlen => { s with reqPlen := v }
  | .timeoutLow => { s with timeoutMs := (s.timeoutMs >>> 8).setWidth 8 ++ v }
  | .timeoutHigh => { s with timeoutMs := v ++ s.timeoutMs.setWidth 8 }
  | .rxCount => { s with rxCount := v }
  | .reqPayload i => { s with reqPayload := s.reqPayload.set i v }
  | .rxbuf i => { s with rxbuf := s.rxbuf.set i v }
  | .ctrl | .status | .result | .cause | .phase | .rspType | .rspCmd | .rspAck | .rspPlen => s
  | .rspPayload _ | .txbuf _ | .reserved => s

/-- `MemWrite(addr, 1, v)` to a location other than `CTRL`: `STATUS` always (R36), the operand registers in `IDLE` and refused
while busy (R73), read-only and reserved locations ignored without a flag (R62, R72). -/
def State.writeLocation (l : Location) (v : Byte) (s : State) : State :=
  if l = .status then s.writeStatus v
  else if l.idleWritable then (if s.busy then s.refuseBusy else s.storeLocation l v)
  else s

end Sys2Proof.Machine
end

