-- ==== Sys2Proof/Machine/HostOps.lean ====
section
/-! DEFINITION. The meanings of the operation words that the host writes to `CTRL` (R105). -/

namespace Sys2Proof.Machine

/-- `NOP`: no state changes, in any phase, and `OVR` is not set (R108). -/
def execNop (s : State) : Host.Outcome State Fault Refusal := .next s

/-- `TRANSACT`: refused while busy (R73, R109); in `IDLE` the request is checked and the transaction starts (R174 to R177). -/
def execTransact (s : State) : Host.Outcome State Fault Refusal :=
  if s.busy then .next s.refuseBusy
  else .next (s.withCheckedRequest s.startTransaction)

/-- `ENCODE`: refused while busy (R73, R110); in `IDLE` the request is checked and its frame is built into `TXBUF`, without
sending (R134). -/
def execEncode (s : State) : Host.Outcome State Fault Refusal :=
  if s.busy then .next s.refuseBusy
  else .next (s.withCheckedRequest (s.loadRequestFrame.raise .encoded .none))

/-- `DECODE`: refused while busy (R73, R111); in `IDLE` the response registers are cleared and the held delivery is decoded into
them (R160). -/
def execDecode (s : State) : Host.Outcome State Fault Refusal :=
  if s.busy then .next s.refuseBusy
  else .next (s.clearResponse.reportDecoded (packetDecode Config.lenEdgePolicy s.heldDelivery))

end Sys2Proof.Machine
end

