-- ==== Sys2Proof/Machine/Commands.lean ====
section
/-! DEFINITION. The meanings of the documented commands carried in request frames. "The engine treats all twelve pairs alike"
(R212): it reads no bit of `type` and of the command number, so each request goes out on the transmit port unchanged (R181).
What the remote device does with it is outside the engine (R6, R227, log entry 19). -/

namespace Sys2Proof.Machine

/-- `EEPROM.SETPOS`: the transport takes the frame (R213, R181, R212). -/
def execEepromSetpos (len : Byte) (body : FrameBody) (s : State) : Host.Outcome State Fault Refusal :=
  .next (s.transmit (frameOf (encode (.eepromSetpos len body))))

/-- `EEPROM.READ`: the transport takes the frame (R214, R181, R212). -/
def execEepromRead (len : Byte) (body : FrameBody) (s : State) : Host.Outcome State Fault Refusal :=
  .next (s.transmit (frameOf (encode (.eepromRead len body))))

/-- `EEPROM.WRITE`: the transport takes the frame (R215, R181, R212). -/
def execEepromWrite (len : Byte) (body : FrameBody) (s : State) : Host.Outcome State Fault Refusal :=
  .next (s.transmit (frameOf (encode (.eepromWrite len body))))

/-- `EEPROM.READAT`: the transport takes the frame (R216, R181, R212). -/
def execEepromReadat (len : Byte) (body : FrameBody) (s : State) : Host.Outcome State Fault Refusal :=
  .next (s.transmit (frameOf (encode (.eepromReadat len body))))

/-- `EEPROM.AUXREAD1`: the transport takes the frame (R217, R181, R212). -/
def execEepromAuxread1 (len : Byte) (body : FrameBody) (s : State) : Host.Outcome State Fault Refusal :=
  .next (s.transmit (frameOf (encode (.eepromAuxread1 len body))))

/-- `EEPROM.AUXREAD2`: the transport takes the frame (R218, R181, R212). -/
def execEepromAuxread2 (len : Byte) (body : FrameBody) (s : State) : Host.Outcome State Fault Refusal :=
  .next (s.transmit (frameOf (encode (.eepromAuxread2 len body))))

/-- `STATE.READ`: the transport takes the frame (R219, R181, R212). -/
def execStateRead (len : Byte) (body : FrameBody) (s : State) : Host.Outcome State Fault Refusal :=
  .next (s.transmit (frameOf (encode (.stateRead len body))))

/-- `STATE.WRITE1`: the transport takes the frame (R220, R181, R212). -/
def execStateWrite1 (len : Byte) (body : FrameBody) (s : State) : Host.Outcome State Fault Refusal :=
  .next (s.transmit (frameOf (encode (.stateWrite1 len body))))

/-- `DPTX.CTRL1`: the transport takes the frame (R221, R181, R212). -/
def execDptxCtrl1 (len : Byte) (body : FrameBody) (s : State) : Host.Outcome State Fault Refusal :=
  .next (s.transmit (frameOf (encode (.dptxCtrl1 len body))))

/-- `DPTX.CTRL2`: the transport takes the frame (R222, R181, R212). -/
def execDptxCtrl2 (len : Byte) (body : FrameBody) (s : State) : Host.Outcome State Fault Refusal :=
  .next (s.transmit (frameOf (encode (.dptxCtrl2 len body))))

/-- `DPTX.DATA1`: the transport takes the frame (R223, R181, R212). -/
def execDptxData1 (len : Byte) (body : FrameBody) (s : State) : Host.Outcome State Fault Refusal :=
  .next (s.transmit (frameOf (encode (.dptxData1 len body))))

/-- `DPTX.DATA2`: the transport takes the frame (R224, R181, R212). -/
def execDptxData2 (len : Byte) (body : FrameBody) (s : State) : Host.Outcome State Fault Refusal :=
  .next (s.transmit (frameOf (encode (.dptxData2 len body))))

end Sys2Proof.Machine
end

