-- ==== Sys2Proof/Machine/Frames.lean ====
section
/-! DEFINITION. The meanings of the frame classes (R99, R113). A request frame goes out on the transmit port (R181); a received
frame is taken from the receive port and classified by the decoder's checks (R184 to R186), which find the class from the
frame's own bytes. -/

namespace Sys2Proof.Machine

/-- `REQ`: the transport takes the frame (R80, R181). -/
def execReq (type : Byte) (len : BitVec 6) (cmd : BitVec 7) (body : FrameBody) (s : State) : Host.Outcome State Fault Refusal :=
  .next (s.transmit (frameOf (encode (.req type len cmd body))))

/-- `RSP.ACK`: where its checks pass it ends the transaction with `ACK` (R186); a bad sum or, under `reject`, a length edge is
reported instead (R157, R164). -/
def execRspAck (type : Byte) (len : BitVec 6) (cmd : BitVec 7) (body : FrameBody) (s : State) :
    Host.Outcome State Fault Refusal :=
  .next (s.receive (encode (.rspAck type len cmd body)))

/-- `RSP.NACK`: where its checks pass it ends the transaction with `NACK` (R186, R274); a bad sum or, under `reject`, a length
edge is reported instead (R157, R164). -/
def execRspNack (type : Byte) (len : BitVec 6) (cmd : BitVec 7) (body : FrameBody) (s : State) :
    Host.Outcome State Fault Refusal :=
  .next (s.receive (encode (.rspNack type len cmd body)))

/-- `ILLEGAL.LEN64_127`: it ends the transaction with `FRAME_LENGTH_ERROR/LEN_FIELD` (R113, R153, R186). -/
def execIllegalLen64To127 (type : Byte) (len : BitVec 6) (cmd : Byte) (body : FrameBody) (s : State) :
    Host.Outcome State Fault Refusal :=
  .next (s.receive (encode (.illegalLen64To127 type len cmd body)))

/-- `ILLEGAL.LEN128_255`: it ends the transaction with `FRAME_LENGTH_ERROR/LEN_FIELD` (R113, R153, R186). -/
def execIllegalLen128To255 (type : Byte) (len : BitVec 7) (cmd : Byte) (body : FrameBody) (s : State) :
    Host.Outcome State Fault Refusal :=
  .next (s.receive (encode (.illegalLen128To255 type len cmd body)))

end Sys2Proof.Machine
end

