-- ==== Sys2Proof/Machine/Dispatch.lean ====
section
/-! DEFINITION. The dispatch: one arm per instruction, each one call of its meaning. -/

namespace Sys2Proof.Machine

def exec (i : Instr) (s : State) : Host.Outcome State Fault Refusal :=
  match i with
  | .nop => Sys2Proof.Machine.execNop s
  | .transact => Sys2Proof.Machine.execTransact s
  | .encode => Sys2Proof.Machine.execEncode s
  | .decode => Sys2Proof.Machine.execDecode s
  | .req type len cmd body => Sys2Proof.Machine.execReq type len cmd body s
  | .rspAck type len cmd body => Sys2Proof.Machine.execRspAck type len cmd body s
  | .rspNack type len cmd body => Sys2Proof.Machine.execRspNack type len cmd body s
  | .illegalLen64To127 type len cmd body => Sys2Proof.Machine.execIllegalLen64To127 type len cmd body s
  | .illegalLen128To255 type len cmd body => Sys2Proof.Machine.execIllegalLen128To255 type len cmd body s
  | .eepromSetpos len body => Sys2Proof.Machine.execEepromSetpos len body s
  | .eepromRead len body => Sys2Proof.Machine.execEepromRead len body s
  | .eepromWrite len body => Sys2Proof.Machine.execEepromWrite len body s
  | .eepromReadat len body => Sys2Proof.Machine.execEepromReadat len body s
  | .eepromAuxread1 len body => Sys2Proof.Machine.execEepromAuxread1 len body s
  | .eepromAuxread2 len body => Sys2Proof.Machine.execEepromAuxread2 len body s
  | .stateRead len body => Sys2Proof.Machine.execStateRead len body s
  | .stateWrite1 len body => Sys2Proof.Machine.execStateWrite1 len body s
  | .dptxCtrl1 len body => Sys2Proof.Machine.execDptxCtrl1 len body s
  | .dptxCtrl2 len body => Sys2Proof.Machine.execDptxCtrl2 len body s
  | .dptxData1 len body => Sys2Proof.Machine.execDptxData1 len body s
  | .dptxData2 len body => Sys2Proof.Machine.execDptxData2 len body s

end Sys2Proof.Machine
end

