-- ==== Sys2Proof/Machine/Agents.lean ====
section
/-! DEFINITION. The moves of the agents (R171, R172): where each instruction is read from, and what a step does around it. -/

namespace Sys2Proof.Machine

/-- A host write to `CTRL`: the word is decoded and its instruction runs; a word with a reserved bit is refused by name
(R105, R112). -/
def writeCtrl (v : Byte) (s : State) : Host.Outcome State Fault Refusal :=
  match decode .ctrl [v] with
  | .ok i => exec i s
  | .error _ => .next s.badOpWord

/-- `MemWrite(addr, 1, v)` (R60, R61). -/
def hostWrite (addr : BitVec 9) (v : Byte) (s : State) : Host.Outcome State Fault Refusal :=
  if locate addr = .ctrl then writeCtrl v s else .next (s.writeLocation (locate addr) v)

/-- `MemRead(addr, 1)`: the host gets the byte and nothing else changes (R68). -/
def hostRead (addr : BitVec 9) (s : State) : Host.Outcome State Fault Refusal :=
  .next { s with hostData := s.windowRead addr }

/-- The transport is ready: while `PHASE = SEND` the frame in `TXBUF` is run as the instruction it is; a frame that is none (no
run makes one, log entry 17) goes out all the same (R80, R181). -/
def sendStep (s : State) : Host.Outcome State Fault Refusal :=
  if s.txValid then
    match decode .transmit s.txbuf.toList with
    | .ok i => exec i s
    | .error _ => .next (s.transmit s.txFrame)
  else .next s

/-- The take step: while `PHASE = WAIT` the head of `RXQ` leaves the queue and is run as the instruction it is; a delivery that
is no frame is taken all the same (R184 to R186). -/
def takeStep (s : State) : Host.Outcome State Fault Refusal :=
  if s.rxReady then
    match s.rxq with
    | [] => .next s
    | d :: ds =>
      match decode .receive d with
      | .ok i => exec i { s with rxq := ds }
      | .error _ => .next ({ s with rxq := ds }.receive d)
  else .next s

/-- A step of the engine, the transport or the timer; where it is not enabled, nothing changes (R172). -/
def engineMove (m : EngineMove) (s : State) : Host.Outcome State Fault Refusal :=
  match m with
  | .send => sendStep s
  | .take => takeStep s
  | .tick => .next s.tick
  | .expire => .next s.expire
  | .expireUntimed => .next s.expireUntimed

/-- One move (R171). A host write to `STATUS` in the same step as an engine step clears first, so a bit that the engine sets in
that step ends up 1 (R76, log entry 16). -/
def performMove (m : Move) (s : State) : Host.Outcome State Fault Refusal :=
  match m with
  | .read addr => hostRead addr s
  | .write addr v => hostWrite addr v s
  | .engine m => engineMove m s
  | .statusWriteWith v m => engineMove m (s.writeStatus v)
  | .deliver d => .next (s.deliver d)
  | .reset taken => .next (s.hardReset taken)
  | .idle => .next s

/-- What happens when no move is pending: the waiting engine takes, the timer runs down, the engine expires; in `IDLE` and in
`SEND` nothing happens (R172, R190, R322, log entry 3). -/
def quietMove (s : State) : Move :=
  match s.phase, s.rxq with
  | .wait, _ :: _ => .engine .take
  | .wait, [] => if s.timer = 0 then .engine .expire else .engine .tick
  | .idle, _ => .idle
  | .send, _ => .idle

end Sys2Proof.Machine
end

