-- ==== Sys2Proof/Machine/Step.lean ====
section
/-! DEFINITION. One step of the machine: the oldest pending move, or, where none is pending, the quiet one. -/

namespace Sys2Proof.Machine

/-- One step (R74, R171). -/
def step (s : State) : Host.Outcome State Fault Refusal :=
  match s.inputs with
  | m :: ms => performMove m { s with inputs := ms }
  | [] => performMove (quietMove s) s

/-- The state with an instruction stored where the very next step reads it (log entry 6): an operation word as the host's pending
write to `CTRL`; a request frame in `TXBUF`, offered to a ready transport; any other frame at the head of `RXQ`, awaited. -/
def State.withFetchWord (s : State) (nbits w : Nat) : State :=
  if nbits = 8 then { s with inputs := .write 0x000 (BitVec.ofNat 8 w) :: s.inputs }
  else if nbits = 24 then
    match decode .transmit (tableFrame w) with
    | .ok _ => { s with phase := .send, txbuf := frameOf (tableFrame w), inputs := .engine .send :: s.inputs }
    | .error _ => { s with phase := .wait, rxq := tableFrame w :: s.rxq, inputs := .engine .take :: s.inputs }
  else s

end Sys2Proof.Machine
end

