-- ==== Sys2Proof/Machine/HostSequences.lean ====
section
/-! DEFINITION. The host software above the engine, as 44_host_sequences.md describes it: outside the hardware block (R6, R230),
and so beside the machine, not in its step. A sequence is data that the results of its transactions move on; the moves that one
operation costs the host are lists of `Move`. Layouts that the source does not give are arguments (R227), and behaviours that it
does not give are opaque constants of Config or the model's choice (log entries 13, 20 and 26 to 33). -/

namespace Sys2Proof.Machine

/-- The operands of one `TRANSACT` (R174). -/
structure Request where
  type : Byte
  cmd : Byte
  payload : List Byte
  deriving DecidableEq, Repr

/-- What a transaction gave, as the host reads it from the registers (R15, R186, R276). -/
inductive TxResult where
  | ack (payload : List Byte)
  | nack (cmd : BitVec 7) (payload : List Byte)
  | noResponse (c : Cause)
  | frameLengthError (c : Cause)
  | badRequest (c : Cause)
  deriving DecidableEq, Repr

/-- `RSP_PAYLOAD[0..<RSP_PLEN]` (R186). -/
def State.responsePayload (s : State) : List Byte := s.rspPayload.toList.take s.rspPlen.toNat

/-- The outcome of a completed transaction; none for `NONE`, `ENCODED` and `NO_PACKET`, which no transaction ends with (R33). -/
def State.txResult (s : State) : Option TxResult :=
  match s.result with
  | .ack => some (.ack s.responsePayload)
  | .nack => some (.nack s.rspCmd s.responsePayload)
  | .noResponse => some (.noResponse s.cause)
  | .frameLengthError => some (.frameLengthError s.cause)
  | .badRequest => some (.badRequest s.cause)
  | .none | .encoded | .noPacket => none

/-- Host writes of consecutive bytes from a window address on. -/
def writeBytes (base : Nat) : List Byte → List Move
  | [] => []
  | b :: bs => .write (BitVec.ofNat 9 base) b :: writeBytes (base + 1) bs

/-- The host's writes that put a request into the request registers (R122). Of a payload longer than 60 bytes the first 60 are
written, and the engine refuses it for its length (R132), which saturates at 255 (DESIGN CHOICE, log entry 13). -/
def loadRequest (r : Request) : List Move :=
  .write 0x004 r.type :: .write 0x005 r.cmd :: .write 0x006 (BitVec.ofNat 8 (min r.payload.length 255)) ::
    writeBytes 0x040 (r.payload.take Config.maxPayload)

/-- `TRANSACT type, command, [payload]` with the timeout as it stands (R122). -/
def startTransact (r : Request) : List Move := loadRequest r ++ [.write 0x000 0x01]

/-- `ENCODE type, command, [payload]` (R122). -/
def startEncode (r : Request) : List Move := loadRequest r ++ [.write 0x000 0x02]

/-- `DECODE <frame bytes>` (R122). A byte string longer than `RX_MAX` is outside the spec's model (U16): the count saturates at
255, and so does not read as 64 (DESIGN CHOICE, log entry 13). -/
def startDecode (d : Delivery) : List Move :=
  .write 0x00e (BitVec.ofNat 8 (min d.length Config.rxMax)) :: writeBytes 0x100 (d.take 64) ++ [.write 0x000 0x03]

/-- `POLL type, command`: a `TRANSACT` with an empty payload (R123). -/
def pollRequest (type cmd : Byte) : Request := ⟨type, cmd, []⟩

/-- The chunk sizes of a transfer of `total` bytes: full chunks, then the rest (R233). A transfer of 0 bytes is not said. -/
def chunkSizes (total chunk : Nat) : List Nat :=
  if total = 0 then (if Config.emptyTransferAsks then [0] else [])
  else List.replicate (total / chunk) chunk ++ (if total % chunk = 0 then [] else [total % chunk])

/-- The chunks as (absolute offset, size): chunk `k` starts at `start + k * chunk` (R233). -/
def chunkSpans (total start chunk : Nat) : List (Nat × Nat) :=
  (chunkSizes total chunk).zipIdx.map fun p => (start + p.2 * chunk, p.1)

/-- The low byte of an offset (R235, R245). An offset of 65536 or more, which two bytes cannot carry, is sent modulo 65536 (DESIGN
CHOICE, log entry 29). -/
def offsetLow (o : Nat) : Byte := BitVec.ofNat 8 o

/-- The high byte of an offset (R235, R245). -/
def offsetHigh (o : Nat) : Byte := BitVec.ofNat 8 (o / 256)

/-- The descriptor of a block transfer (R231). -/
structure BlockTransfer where
  type : Byte
  cmd : Byte
  totalSize : Nat
  startOffset : Nat
  chunkSize : Nat
  deriving DecidableEq, Repr

/-- The transfer of a `readBlock` call: a call that gives no chunk size reads in chunks of 60 bytes (R232). -/
def readTransfer (type cmd : Byte) (totalSize startOffset : Nat) (chunkSize : Option Nat) : BlockTransfer :=
  ⟨type, cmd, totalSize, startOffset, chunkSize.getD Config.readChunkMax⟩

/-- The transfer of a `writeBlock` call: all of the buffer, and a call that gives no chunk size writes in chunks of 32 bytes
(R244). -/
def writeTransfer (type cmd : Byte) (buffer : List Byte) (startOffset : Nat) (chunkSize : Option Nat) : BlockTransfer :=
  ⟨type, cmd, buffer.length, startOffset, chunkSize.getD Config.writeChunkMax⟩

/-- The chunk size of a read is 1 to 60 (R231, R233). -/
def BlockTransfer.readLegal (t : BlockTransfer) : Bool := decide (1 ≤ t.chunkSize ∧ t.chunkSize ≤ Config.readChunkMax)

/-- The chunk size of a write is 1 to 32 (R231, R244). -/
def BlockTransfer.writeLegal (t : BlockTransfer) : Bool := decide (1 ≤ t.chunkSize ∧ t.chunkSize ≤ Config.writeChunkMax)

/-- One request of a read, with the size of the chunk its acknowledge is to carry; none for the positioning request, which asks
for no data (R234). -/
structure ReadItem where
  request : Request
  size : Option Nat
  deriving DecidableEq, Repr

/-- A length-only read request, `TRANSACT 0xa0, 0x02, [length]` (R214, R234). The length is one byte: DESIGN CHOICE, R214 calls
that the natural reading and says that the layout is not spelled out (log entry 26). -/
def lengthOnlyRead (n : Nat) : ReadItem := ⟨⟨0xa0, 0x02, [BitVec.ofNat 8 n]⟩, some n⟩

/-- Position-then-stream: `TRANSACT 0xa0, 0x00, [position]`, then one length-only request per chunk (R234). The layout of the
position is an argument: the source does not give it. A read of 0 bytes that asks for no chunk sends no positioning request
either (DESIGN CHOICE, log entry 27). -/
def streamRead (positionOf : Nat → List Byte) (total start chunk : Nat) : List ReadItem :=
  match chunkSizes total chunk with
  | [] => []
  | n :: ns => ⟨⟨0xa0, 0x00, positionOf start⟩, none⟩ :: (n :: ns).map lengthOnlyRead

/-- Inline-offset: each request carries its length and its absolute offset, low byte first (R235). -/
def inlineRead (type cmd : Byte) (total start chunk : Nat) : List ReadItem :=
  (chunkSpans total start chunk).map fun p =>
    ⟨⟨type, cmd, [BitVec.ofNat 8 p.2, offsetLow p.1, offsetHigh p.1]⟩, some p.2⟩

/-- The two addressing conventions, selected per call and not merged (R232, R236). -/
inductive AddressingMode where
  | positionThenStream (positionOf : Nat → List Byte)
  | inlineOffset

/-- `readBlock(type, command, totalSize, startOffset, chunkSize = 60, addressingMode)` (R232). A chunk size outside its limits is
refused (R231), and so is position-then-stream on any pair but `0xa0`, `0x02`, the one with a documented positioning command
(R234, R213, R214): DESIGN CHOICE, log entry 29. -/
def readBlock (type cmd : Byte) (totalSize startOffset : Nat) (chunkSize : Option Nat) (mode : AddressingMode) :
    Option (List ReadItem) :=
  let t := readTransfer type cmd totalSize startOffset chunkSize
  if t.readLegal then
    match mode with
    | .inlineOffset => some (inlineRead t.type t.cmd t.totalSize t.startOffset t.chunkSize)
    | .positionThenStream positionOf =>
      if t.type = 0xa0 ∧ t.cmd = 0x02 then some (streamRead positionOf t.totalSize t.startOffset t.chunkSize) else none
  else none

/-- Where a read stands. -/
inductive ReadStatus where
  | running (got : List Byte) (todo : List ReadItem)  -- the head of `todo` is in flight or next
  | done (bytes : List Byte)
  | aborted (first : Option TxResult)  -- `TransferAbort` with the first failure (R238); none for data of the wrong size
  deriving DecidableEq, Repr

/-- The size of an acknowledged chunk lets the read go on: it is the one asked for, or the policy does not look at single chunks
(R237, log entry 28). -/
def ReadItem.accepts (item : ReadItem) (payload : List Byte) : Bool :=
  match item.size with
  | none => true
  | some n => payload.length == n || Config.wrongSizePolicy != .abortAtOnce

/-- What an acknowledge adds to the data: nothing for the positioning request (R234, log entry 20). -/
def ReadItem.dataOf (item : ReadItem) (payload : List Byte) : List Byte :=
  match item.size with
  | none => []
  | some _ => payload

/-- A read with requests still to come runs on; one with none returns the concatenation (R237), unless the policy looks at the
total and it is not the one asked for (log entry 28). -/
def continueRead (total : Nat) (got : List Byte) (todo : List ReadItem) : ReadStatus :=
  match todo with
  | _ :: _ => .running got todo
  | [] => if got.length = total ∨ Config.wrongSizePolicy ≠ .abortAtEnd then .done got else .aborted none

/-- A read before its first request. -/
def startRead (total : Nat) (items : List ReadItem) : ReadStatus := continueRead total [] items

/-- One result moves the read on: an acknowledge adds its chunk, anything else ends the read and what was read is discarded
(R237, R238). A positioning request that is not acknowledged ends it too: DESIGN CHOICE, R234 does not say so separately (log
entry 27). -/
def readAfter (total : Nat) (st : ReadStatus) (r : TxResult) : ReadStatus :=
  match st, r with
  | .running got (item :: todo), .ack p =>
    if item.accepts p then continueRead total (got ++ item.dataOf p) todo else .aborted none
  | .running _ _, r => .aborted (some r)
  | .done bytes, _ => .done bytes
  | .aborted first, _ => .aborted first

/-- The request a read issues next (R232, R238). -/
def ReadStatus.next : ReadStatus → Option Request
  | .running _ (item :: _) => some item.request
  | .running _ [] | .done _ | .aborted _ => none

/-- The chunk requests of a write: each `(offsetLow, offsetHigh, ...chunkBytes)` (R245). -/
def writeChunks (type cmd : Byte) (buffer : List Byte) (start chunk : Nat) : List Request :=
  (chunkSpans buffer.length 0 chunk).map fun p =>
    ⟨type, cmd, offsetLow (start + p.1) :: offsetHigh (start + p.1) :: slice p.1 (p.1 + p.2) buffer⟩

/-- `writeBlock(type, command, buffer, startOffset, chunkSize = 32)`: the buffer cut as a read is cut, with chunks of at most 32
bytes (R244). A chunk size outside its limits is refused (R231): DESIGN CHOICE, log entry 29. -/
def writeBlock (type cmd : Byte) (buffer : List Byte) (startOffset : Nat) (chunkSize : Option Nat) : Option (List Request) :=
  let t := writeTransfer type cmd buffer startOffset chunkSize
  if t.writeLegal then some (writeChunks t.type t.cmd buffer t.startOffset t.chunkSize) else none

/-- Where a write stands. -/
inductive WriteStatus where
  | sending (todo : List Request)                            -- the head of `todo` is the chunk in flight or next
  | polling (failed : List TxResult) (todo : List Request)  -- the failed polls of the last chunk, oldest first
  | done
  | aborted (first : TxResult)                               -- `TransferAbort` (R245)
  | busyTimeout                                              -- `WriteBusyTimeout` (R247)
  deriving DecidableEq, Repr

/-- A write before its first chunk. -/
def startWrite (todo : List Request) : WriteStatus :=
  match todo with
  | [] => .done
  | _ :: _ => .sending todo

/-- A result is an acknowledge. -/
def TxResult.isAck : TxResult → Bool
  | .ack _ => true
  | .nack _ _ | .noResponse _ | .frameLengthError _ | .badRequest _ => false

/-- A result is a nack. -/
def TxResult.isNack : TxResult → Bool
  | .nack _ _ => true
  | .ack _ | .noResponse _ | .frameLengthError _ | .badRequest _ => false

/-- A poll that did not acknowledge and is not fatal: every such poll is one of the ten (R246, R263), and the tenth ends the write:
with `WriteBusyTimeout` if all ten were nacks (R247), as the policy says otherwise (log entry 32). -/
def pollFailed (failed : List TxResult) (r : TxResult) (todo : List Request) : WriteStatus :=
  if failed.length + 1 < Config.maxPolls then .polling (failed ++ [r]) todo
  else if (failed ++ [r]).all TxResult.isNack || Config.silentPollsPolicy == .busyTimeout then .busyTimeout
  else .aborted (failed.headD r)

/-- One result moves the write on (R245 to R247). The writer is unproven in the source itself (R249). -/
def writeAfter (st : WriteStatus) (r : TxResult) : WriteStatus :=
  match st, r with
  | .sending (_ :: todo), .ack _ => .polling [] todo
  | .sending _, r => .aborted r
  | .polling _ todo, .ack _ => startWrite todo
  | .polling failed todo, .nack c p => pollFailed failed (.nack c p) todo
  | .polling failed todo, .noResponse c => pollFailed failed (.noResponse c) todo
  | .polling _ _, .frameLengthError c => .aborted (.frameLengthError c)
  | .polling _ _, .badRequest c => .aborted (.badRequest c)
  | .done, _ => .done
  | .aborted first, _ => .aborted first
  | .busyTimeout, _ => .busyTimeout

/-- The request a write issues next: a chunk, or a poll on the same pair (R246). -/
def WriteStatus.next (type cmd : Byte) : WriteStatus → Option Request
  | .sending (r :: _) => some r
  | .polling _ _ => some (pollRequest type cmd)
  | .sending [] | .done | .aborted _ | .busyTimeout => none

/-- A named field of a block of `size` bytes: an unsigned 8-bit or little-endian 16-bit field. No field reaches past the block
(R251, R253). -/
inductive RegisterField (size : Nat) where
  | byte (name : String) (offset : Fin size)
  | word (name : String) (offset : Fin (size - 1))
  deriving DecidableEq, Repr

/-- The name of a field. -/
def RegisterField.name {size : Nat} : RegisterField size → String
  | .byte name _ | .word name _ => name

/-- The value of a field: `b[o]`, or `b[o] + 256 * b[o + 1]` (R251). -/
def RegisterField.value {size : Nat} (block : Vector Byte size) : RegisterField size → Nat
  | .byte _ o => block[o].toNat
  | .word _ o => block[o.val].toNat + 256 * block[o.val + 1].toNat

/-- A block of the length that a decoder requires; one of another length is a `DecodeError` (none) (R251, R253). -/
def exactBlock (size : Nat) (block : List Byte) : Option (Vector Byte size) :=
  if h : block.length = size then some ⟨block.toArray, h⟩ else none

/-- A decoded register: its fields by name (R251). -/
def decodeRegister {size : Nat} (fields : List (RegisterField size)) (block : List Byte) : Option (List (String × Nat)) :=
  (exactBlock size block).map fun b => fields.map fun f => (f.name, f.value b)

/-- The firmware version: 3 bytes, order-reversed (R252). -/
def decodeFirmware (block : List Byte) : Option (List Byte) := (exactBlock 3 block).map fun b => b.toList.reverse

/-- The serial: 8 bytes, treated as text, in a character set that the source does not name (R252, log entry 31). -/
def decodeSerial (block : List Byte) : Option String := (exactBlock 8 block).map Config.serialText

/-- The panel video-timing block: 0x30 bytes, the fields an argument (R252). -/
def decodePanelTiming (fields : List (RegisterField 0x30)) (block : List Byte) : Option (List (String × Nat)) :=
  decodeRegister fields block

/-- The downstream-transmitter video timing: its fields and its two derived flags (R252). -/
structure DownstreamTiming where
  fields : List (String × Nat)
  flag1 : Bool
  flag2 : Bool
  deriving DecidableEq, Repr

/-- The downstream-transmitter video-timing block: 15 bytes, and two single-bit flags derived from them (R252). The fields and how
each flag is derived are arguments: neither is in the source (N35, log entry 31). -/
def decodeDownstreamTiming (fields : List (RegisterField 15)) (derive1 derive2 : Vector Byte 15 → Bool) (block : List Byte) :
    Option DownstreamTiming :=
  (exactBlock 15 block).map fun b => ⟨fields.map fun f => (f.name, f.value b), derive1 b, derive2 b⟩

/-- The host-level failures, beyond the engine's own (R262). -/
inductive HostError where
  | transferAbort (first : Option TxResult)  -- a transfer could not complete
  | writeBusyTimeout                         -- ten polls failed
  | decodeError                              -- a block of the wrong length
  deriving DecidableEq, Repr

/-- What a read reports once it has ended; none while it runs (R237, R238). -/
def ReadStatus.report : ReadStatus → Option (Except HostError (List Byte))
  | .running _ _ => none
  | .done bytes => some (.ok bytes)
  | .aborted first => some (.error (.transferAbort first))

/-- What a write reports once it has ended; none while it runs (R245 to R247). -/
def WriteStatus.report : WriteStatus → Option (Except HostError Unit)
  | .sending _ | .polling _ _ => none
  | .done => some (.ok ())
  | .aborted first => some (.error (.transferAbort (some first)))
  | .busyTimeout => some (.error .writeBusyTimeout)

/-- A flow that is one block read with its decoder: firmware version, serial and video state (R255); with `some` as the decoder,
EDID-from-EEPROM and live EDID (R254). The addresses are in the read's requests and are not in the source. -/
def flowReport {α : Type} (decoder : List Byte → Option α) (st : ReadStatus) : Option (Except HostError α) :=
  match st.report with
  | none => none
  | some (.error e) => some (.error e)
  | some (.ok bytes) => match decoder bytes with
    | none => some (.error .decodeError)
    | some a => some (.ok a)

/-- Live EDID: `readBlock` by the inline-offset convention (R254), without a chunk size: DESIGN CHOICE, the source gives none for
this flow (log entry 33). -/
def liveEdidRead (type cmd : Byte) (size start : Nat) : Option (List ReadItem) :=
  readBlock type cmd size start none .inlineOffset

/-- EDID-from-EEPROM: one `readBlock` (R254); its command, its convention and its offset and size are not in the source. It is read
without a chunk size: DESIGN CHOICE, the source gives none for this flow (log entry 33). -/
def eepromEdidRead (type cmd : Byte) (size start : Nat) (mode : AddressingMode) : Option (List ReadItem) :=
  readBlock type cmd size start none mode

/-- A block of the internal-state space: `readBlock` on `0xde`, `0x31` (R255, R219); its address and its convention are not in the
source. It is read without a chunk size: DESIGN CHOICE, the source gives none for these flows (log entry 33). -/
def stateBlockRead (size start : Nat) (mode : AddressingMode) : Option (List ReadItem) :=
  readBlock 0xde 0x31 size start none mode

/-- The two downstream outputs (R256). -/
inductive Output where
  | one | two
  deriving DecidableEq, Repr

/-- An output selector outside 1 and 2 is refused (R225, R256, R271). -/
def outputOf : Nat → Option Output
  | 1 => some .one
  | 2 => some .two
  | _ => none

/-- The output is addressed by the first value of a pair; the other output by the second (R225, log entry 30). -/
def Output.takesFirst (o : Output) (p : PairedCommand) : Bool :=
  match o with
  | .one => Config.firstIsOutputOne p
  | .two => !Config.firstIsOutputOne p

/-- The type and command of a paired command for an output (R217, R218, R221 to R225). -/
def Output.pair (o : Output) : PairedCommand → Byte × Byte
  | .auxRead => (0xa0, if o.takesFirst .auxRead then 0x11 else 0x71)
  | .control => (0x10, if o.takesFirst .control then 0x10 else 0x70)
  | .data => (0x10, if o.takesFirst .data then 0x11 else 0x71)

/-- A request on the AUX-bridge control register of an output (R221, R222, R257). -/
def Output.controlRequest (o : Output) (payload : List Byte) : Request := ⟨(o.pair .control).1, (o.pair .control).2, payload⟩

/-- The downstream EDID flow for an output: what the source leaves open of it (R257 to R260, N34, log entry 30). -/
structure EdidPlan where
  output : Output
  probe : List Byte        -- the probe's payload
  switch : List Byte       -- the switch's payload, with the fixed enable value
  restoreHead : List Byte  -- what stands before the restored byte in the restore's payload
  restoreTail : List Byte  -- what stands after it
  bulkType : Byte
  bulkCmd : Byte
  bulkStart : Nat
  bulkMode : AddressingMode

/-- The bulk read: 256 bytes via `readBlock`, in chunks of the default size (R259, log entry 30). -/
def EdidPlan.bulk (plan : EdidPlan) : Option (List ReadItem) :=
  readBlock plan.bulkType plan.bulkCmd 256 plan.bulkStart none plan.bulkMode

/-- Where the downstream EDID flow stands (R256 to R261). -/
inductive EdidStatus where
  | probing
  | switching (probed : Byte)
  | reading (probed : Byte) (read : ReadStatus)
  | restoring (probed : Byte) (got : Option (List Byte))
  | done (edid : List Byte)
  | inputNotPresent  -- step 1 failed
  | setFailed        -- step 2 failed
  | failed           -- step 3 or the restore failed
  deriving DecidableEq, Repr

/-- The flow goes on to its restore as soon as the read has ended, however it ended (R260). -/
def afterRead (probed : Byte) (st : ReadStatus) : EdidStatus :=
  match st with
  | .running _ _ => .reading probed st
  | .done bytes => .restoring probed (some bytes)
  | .aborted _ => .restoring probed none

/-- The 256-byte buffer only if the bulk read succeeded (R261); what a failed restore then means is not said. -/
def afterRestore (got : Option (List Byte)) (restored : Bool) : EdidStatus :=
  match got with
  | none => .failed
  | some bytes => if restored || Config.failedRestoreIsSuccess then .done bytes else .failed

/-- The flow's start: a selector outside 1 and 2 fails at once (R256). -/
def startEdid (selector : Nat) (planFor : Output → EdidPlan) : Option (EdidPlan × EdidStatus) :=
  (outputOf selector).map fun o => ({ planFor o with output := o }, .probing)

/-- The bulk read begins once the switch is acknowledged; a read that `readBlock` refuses has failed, and the switch is restored
all the same (R259, R260). -/
def afterSwitch (plan : EdidPlan) (probed : Byte) : EdidStatus :=
  match plan.bulk with
  | some items => afterRead probed (startRead 256 items)
  | none => .restoring probed none

/-- One result moves the flow on (R257 to R261). -/
def edidAfter (plan : EdidPlan) (st : EdidStatus) (r : TxResult) : EdidStatus :=
  match st with
  | .probing => match r with
    | .ack [v] => .switching v
    | _ => .inputNotPresent
  | .switching v => if r.isAck then afterSwitch plan v else .setFailed
  | .reading v read => afterRead v (readAfter 256 read r)
  | .restoring _ got => afterRestore got r.isAck
  | .done edid => .done edid
  | .inputNotPresent => .inputNotPresent
  | .setFailed => .setFailed
  | .failed => .failed

/-- The request the flow issues next: the probe, the switch and the restore are on the control register of the selected output
(R257, R258, R260). The restore carries the probed byte at the place the plan gives it (log entry 30). -/
def EdidStatus.next (plan : EdidPlan) : EdidStatus → Option Request
  | .probing => some (plan.output.controlRequest plan.probe)
  | .switching _ => some (plan.output.controlRequest plan.switch)
  | .reading _ read => read.next
  | .restoring v _ => some (plan.output.controlRequest (plan.restoreHead ++ v :: plan.restoreTail))
  | .done _ | .inputNotPresent | .setFailed | .failed => none

end Sys2Proof.Machine
end

