-- ==== Sys2Proof/Safety.lean ====
section
/-! DEFINITION. What counts as a safe state and a safe run, in the terms claims use. Each part of the invariant is a rule of the
spec about every state that a run reaches; none of it mentions what is still to come in `inputs`, nor what the transport held
before (`TXLOG`, `RXQ`). -/

namespace Sys2Proof.Machine

/-- The pairs of `RESULT` and `CAUSE` that can be observed (R277). -/
def legalPair : Result → Cause → Bool
  | .none, .none | .ack, .none | .nack, .none | .encoded, .none => true
  | .noResponse, .timeout | .noResponse, .emptyDelivery | .noResponse, .checksum => true
  | .frameLengthError, .rxSize | .frameLengthError, .lenField | .frameLengthError, .lenEdge => true
  | .badRequest, .payloadTooLong | .badRequest, .cmdBit7 | .badRequest, .badOp => true
  | .noPacket, .checksum => true
  | _, _ => false

/-- The response registers are all zero (R32, R158). -/
def State.responseClear (s : State) : Prop :=
  s.rspType = 0 ∧ s.rspCmd = 0 ∧ s.rspAck = false ∧ s.rspPlen = 0 ∧ s.rspPayload = Vector.replicate 61 0

/-- The delivery record is all zero (R40, R41). -/
def State.deliveryClear (s : State) : Prop :=
  s.rxCount = 0 ∧ s.rxbuf = Vector.replicate 64 0

/-- While a transaction is in flight, no result is shown, the response registers and the delivery record are clear (R176), the
request is a legal one, and `TXBUF` is its frame (R77). -/
def State.flightInv (s : State) : Prop :=
  s.phase ≠ .idle →
    s.result = .none ∧ s.cause = .none ∧ s.done = false ∧ s.responseClear ∧ s.deliveryClear ∧
      s.requestCause = none ∧ s.txbuf = s.requestFrame

/-- The response registers agree with the result: the ack flag with `ACK` and `NACK`, and nothing beside an operation that found
no packet (R30, R158, R272 to R275); a payload of 61 bytes only under `clamp` (R31). -/
def State.responseInv (s : State) : Prop :=
  s.rspPlen.toNat ≤ 61 ∧
    (s.rspPlen.toNat = 61 → Config.lenEdgePolicy = .clamp) ∧
    (∀ i : Fin 61, s.rspPlen.toNat ≤ i.val → s.rspPayload[i] = 0) ∧
    (s.result = .ack → s.rspAck = true) ∧
    (s.result = .nack → s.rspAck = false) ∧
    (s.result = .noResponse ∨ s.result = .frameLengthError ∨ s.result = .noPacket → s.responseClear)

/-- In `WAIT` the timer has not run above what it was loaded with (R182, R187). -/
def State.timerInv (s : State) : Prop :=
  s.phase = .wait → s.timer.toNat ≤ s.timeoutMs.toNat

/-- `RESULT` and `CAUSE` are one of the observable pairs, `LEN_EDGE` only under `reject` (R34, R277). -/
def State.reportInv (s : State) : Prop :=
  legalPair s.result s.cause = true ∧ (s.cause = .lenEdge → Config.lenEdgePolicy = .reject)

/-- The invariant of the engine. -/
def State.Inv (s : State) : Prop :=
  s.reportInv ∧ s.flightInv ∧ s.responseInv ∧ s.timerInv

/-- The host has kept the rule of one transaction at a time: no write of its has been refused (R73). -/
def State.hostKeptRule (s : State) : Bool := !s.ovr

end Sys2Proof.Machine
end

