-- ==== Sys2Proof/Certificates/Slice0/Obligations.lean ====
section
/-! DEFINITION. The statements for the provers, each a numbered rule of spec/ or a consequence of several. A result is written out
field by field: `{ s with … }` names what an instruction writes, and the equation says that nothing else changes. -/

open Sys2Proof Sys2Proof.Machine

-- Encodings

/-- The decoder reads back every well-formed instruction that the encoder wrote, with every operand (R98, R99, R105, R120). -/
def Obligations.DecodeOfEncodedInstruction : Prop :=
  ∀ i : Instr, i.wf = true → decode i.port (encode i) = .ok i

/-- Words written out from the spec: the operation words of R108 to R111, the headers of E1, E2, E7, E8, E10, E13 and of X2 and
X11 in 95_test_vectors.md (section 5). -/
def Obligations.WordsOfTheSpecDecode : Prop :=
  decodeTableWord 8 0x00 = some .nop ∧ decodeTableWord 8 0x01 = some .transact ∧
  decodeTableWord 8 0x02 = some .encode ∧ decodeTableWord 8 0x03 = some .decode ∧
  decodeTableWord 8 0x04 = none ∧
  decodeTableWord 24 0xa00202 = some (.eepromRead 0x02 (Vector.replicate 61 0)) ∧
  decodeTableWord 24 0xa00120 = some (.eepromWrite 0x01 (Vector.replicate 61 0)) ∧
  decodeTableWord 24 0xde0431 = some (.stateRead 0x04 (Vector.replicate 61 0)) ∧
  decodeTableWord 24 0x100210 = some (.dptxCtrl1 0x02 (Vector.replicate 61 0)) ∧
  decodeTableWord 24 0x100170 = some (.dptxCtrl2 0x01 (Vector.replicate 61 0)) ∧
  decodeTableWord 24 0xa00423 = some (.eepromReadat 0x04 (Vector.replicate 61 0)) ∧
  decodeTableWord 24 0xa00182 = some (.rspNack 0xa0 1 0x02 (Vector.replicate 61 0)) ∧
  decode .receive (tableFrame 0xa04002) = .ok (.illegalLen64To127 0xa0 0 0x02 (Vector.replicate 61 0))

/-- Every received frame falls into exactly one class, by its length field and by bit 7 of its command byte alone (R113, and
the header rows of R120). That a frame is named `RSP.ACK` or `RSP.NACK` before its checks, which R99 asks of those classes, is
the model's reading (log entry 4). -/
def Obligations.ReceivedFrameHasOneClass : Prop :=
  ∀ (type len cmd : Byte) (body : FrameBody),
    decode .receive (type :: len :: cmd :: body.toList) = .ok
      (if 128 ≤ len.toNat then .illegalLen128To255 type (len.setWidth 7) cmd body
       else if 64 ≤ len.toNat then .illegalLen64To127 type (len.setWidth 6) cmd body
       else if 128 ≤ cmd.toNat then .rspNack type (len.setWidth 6) (cmd.setWidth 7) body
       else .rspAck type (len.setWidth 6) (cmd.setWidth 7) body)

/-- Every frame that the encoder builds is an instruction of the transmit port (R99, R118), a well-formed one whose encoding is that
frame, byte for byte. That a frame with a documented pair is its CMD row and any other is `REQ`, where R99 calls both requests, is the model's reading (log entry
4). -/
def Obligations.EncodedFrameIsARequest : Prop :=
  ∀ (type : Byte) (cmd : BitVec 7) (payload : List Byte), payload.length ≤ 60 →
    ∃ i, decode .transmit (packetEncode type (cmd.setWidth 8) payload).toList = .ok i ∧ i.wf = true ∧
      encode i = (packetEncode type (cmd.setWidth 8) payload).toList ∧
      ((∃ len cmd' body, i = .req type len cmd' body) ↔ documented type cmd = false)

-- The packet codec

/-- The frame that `encode` builds, byte by byte (R130, R101). -/
def Obligations.EncodeBuildsTheFrame : Prop :=
  ∀ (type command : Byte) (payload : List Byte), payload.length ≤ 60 →
    let f := (packetEncode type command payload).toList
    f.length = 64 ∧ f.getD 0 0 = type ∧ (f.getD 1 0).toNat = payload.length + 1 ∧ f.getD 2 0 = command ∧
    (∀ i, i < payload.length → f.getD (3 + i) 0 = payload.getD i 0) ∧
    (f.getD (payload.length + 3) 0).toNat = (256 - sum8 (f.take (payload.length + 3))) % 256 ∧
    (∀ i, payload.length + 4 ≤ i → f.getD i 0 = 0)

/-- All 64 bytes of an encoded frame sum to 0 modulo 256 (R138). -/
def Obligations.EncodedFrameSumsToZero : Prop :=
  ∀ (type command : Byte) (payload : List Byte), payload.length ≤ 60 →
    sum8 (packetEncode type command payload).toList = 0

/-- `decode(encode(type, command, payload))` gives the triple back with `ack = true`, under either policy (R139). -/
def Obligations.DecodeOfEncodedPacket : Prop :=
  ∀ (policy : LenEdgePolicy) (type : Byte) (command : BitVec 7) (payload : List Byte), payload.length ≤ 60 →
    packetDecode policy (packetEncode type (command.setWidth 8) payload).toList =
      .ok { type := type, ack := true, command := command, payload := payload }

/-- Two legal triples with the same frame are the same triple (R140). -/
def Obligations.EncodeIsInjective : Prop :=
  ∀ (t t' : Byte) (c c' : BitVec 7) (p p' : List Byte), p.length ≤ 60 → p'.length ≤ 60 →
    packetEncode t (c.setWidth 8) p = packetEncode t' (c'.setWidth 8) p' → t = t' ∧ c = c' ∧ p = p'

/-- A delivery that is not 64 bytes long, or whose length field is 64 or more, is a `FrameLengthError`, under either policy and
whatever its sum (R151, R153). -/
def Obligations.IllegalShapeIsRejected : Prop :=
  ∀ (policy : LenEdgePolicy) (d : Delivery),
    (d.length ≠ 64 → packetDecode policy d = .frameLengthError .rxSize) ∧
    (d.length = 64 → 64 ≤ (d.getD 1 0).toNat → packetDecode policy d = .frameLengthError .lenField)

/-- The length fields 0, 62 and 63: `LEN_EDGE` before the sum is looked at under `reject`; under `clamp` the sum decides, and
the payload is empty or the 61 bytes at offsets 3 to 63 (R157). -/
def Obligations.LengthEdgeByPolicy : Prop :=
  ∀ (d : Delivery), d.length = 64 → (d.getD 1 0 = 0 ∨ d.getD 1 0 = 62 ∨ d.getD 1 0 = 63) →
    packetDecode .reject d = .frameLengthError .lenEdge ∧
    (sum8 d ≠ 0 → packetDecode .clamp d = .checksumError) ∧
    (sum8 d = 0 → packetDecode .clamp d =
      .ok { type := d.getD 0 0, ack := !(d.getD 2 0).msb, command := (d.getD 2 0).setWidth 7,
            payload := if d.getD 1 0 = 0 then [] else d.drop 3 })

/-- A frame with a length field of 1 to 61 is decided by the sum of all 64 bytes alone, padding included, under either policy;
an accepted one gives the `L - 1` bytes from offset 3 on (R154, R155, R156). -/
def Obligations.OrdinaryFrameIsDecidedByItsSum : Prop :=
  ∀ (policy : LenEdgePolicy) (d : Delivery), d.length = 64 → 1 ≤ (d.getD 1 0).toNat → (d.getD 1 0).toNat ≤ 61 →
    packetDecode policy d =
      if sum8 d = 0 then
        .ok { type := d.getD 0 0, ack := !(d.getD 2 0).msb, command := (d.getD 2 0).setWidth 7,
              payload := (d.drop 3).take ((d.getD 1 0).toNat - 1) }
      else .checksumError

/-- A change of one byte of an accepted delivery is caught: by the sum, or first by the length field if that is the byte
(R166). -/
def Obligations.OneChangedByteIsCaught : Prop :=
  ∀ (policy : LenEdgePolicy) (d : Delivery) (p : Packet) (i : Nat) (b : Byte),
    packetDecode policy d = .ok p → i < 64 → b ≠ d.getD i 0 →
    packetDecode policy (d.set i b) = .checksumError ∨
      (i = 1 ∧ ∃ e, packetDecode policy (d.set i b) = .frameLengthError e)

-- The operation words

/-- `NOP` changes no state, in any phase (R108). -/
def Obligations.NopChangesNothing : Prop :=
  ∀ s : State, exec .nop s = .next s

/-- `TRANSACT` in `IDLE` with a legal request starts the transaction: all the writes of R176, and no other. -/
def Obligations.TransactStarts : Prop :=
  ∀ s : State, s.phase = .idle → s.reqPlen.toNat ≤ 60 → s.reqCmd.toNat < 0x80 →
    exec .transact s = .next { s with
      txbuf := packetEncode s.reqType s.reqCmd (s.reqPayload.toList.take s.reqPlen.toNat)
      rspType := 0, rspCmd := 0, rspAck := false, rspPlen := 0, rspPayload := Vector.replicate 61 0
      rxbuf := Vector.replicate 64 0, rxCount := 0
      result := .none, cause := .none, done := false, phase := .send }

/-- `ENCODE` in `IDLE` with a legal request fills `TXBUF` and reports `ENCODED`, and changes nothing else (R134). -/
def Obligations.EncodeFillsTxbuf : Prop :=
  ∀ s : State, s.phase = .idle → s.reqPlen.toNat ≤ 60 → s.reqCmd.toNat < 0x80 →
    exec .encode s = .next { s with
      txbuf := packetEncode s.reqType s.reqCmd (s.reqPayload.toList.take s.reqPlen.toNat)
      result := .encoded, cause := .none, done := true }

/-- `ENCODE` and `TRANSACT` in `IDLE` with a request that breaks a precondition are refused and nothing else changes: more than
60 payload bytes first, whatever the command (R132), then bit 7 of the command (R133). -/
def Obligations.BadRequestIsRefused : Prop :=
  ∀ s : State, s.phase = .idle →
    (60 < s.reqPlen.toNat →
      exec .transact s = .next { s with result := .badRequest, cause := .payloadTooLong, done := true } ∧
      exec .encode s = .next { s with result := .badRequest, cause := .payloadTooLong, done := true }) ∧
    (s.reqPlen.toNat ≤ 60 → 0x80 ≤ s.reqCmd.toNat →
      exec .transact s = .next { s with result := .badRequest, cause := .cmdBit7, done := true } ∧
      exec .encode s = .next { s with result := .badRequest, cause := .cmdBit7, done := true })

/-- `DECODE` in `IDLE`, for each result of `decode` on a delivery of length `RX_COUNT` whose first bytes are those of `RXBUF`
(R160 to R163): a packet is written to the response registers; a checksum mismatch and a malformed shape leave them clear.
Nothing else changes. -/
def Obligations.DecodeReportsTheHeldDelivery : Prop :=
  ∀ (s : State) (d : Delivery), s.phase = .idle →
    d.length = s.rxCount.toNat → d.take 64 = s.rxbuf.toList.take s.rxCount.toNat →
    (∀ p, packetDecode Config.lenEdgePolicy d = .ok p →
      exec .decode s = .next { s with
        rspType := p.type, rspCmd := p.command, rspAck := p.ack
        rspPlen := BitVec.ofNat 8 p.payload.length, rspPayload := fit 61 p.payload
        result := if p.ack then .ack else .nack
        cause := .none, done := true }) ∧
    (packetDecode Config.lenEdgePolicy d = .checksumError →
      exec .decode s = .next { s with
        rspType := 0, rspCmd := 0, rspAck := false, rspPlen := 0, rspPayload := Vector.replicate 61 0
        chkerr := true, result := .noPacket, cause := .checksum, done := true }) ∧
    (∀ e, packetDecode Config.lenEdgePolicy d = .frameLengthError e →
      exec .decode s = .next { s with
        rspType := 0, rspCmd := 0, rspAck := false, rspPlen := 0, rspPayload := Vector.replicate 61 0
        result := .frameLengthError
        cause := match e with
          | .rxSize => .rxSize
          | .lenField => .lenField
          | .lenEdge => .lenEdge
        done := true })

/-- While a transaction is in flight, `TRANSACT`, `ENCODE` and `DECODE` are ignored and set `OVR` (R73, R109 to R111). -/
def Obligations.OperationsAreRefusedWhileBusy : Prop :=
  ∀ s : State, s.phase ≠ .idle →
    exec .transact s = .next { s with ovr := true } ∧
    exec .encode s = .next { s with ovr := true } ∧
    exec .decode s = .next { s with ovr := true }

/-- A word with a reserved bit written to `CTRL`: `BAD_REQUEST/BAD_OP` in `IDLE` and nothing else, ignored with `OVR` while
busy (R112). -/
def Obligations.ReservedOperationWord : Prop :=
  ∀ (s : State) (v : Byte), 4 ≤ v.toNat →
    hostWrite 0x000 v s = .next
      (if s.phase = .idle then { s with result := .badRequest, cause := .badOp, done := true }
       else { s with ovr := true })

-- The frames

/-- A request frame offered while `PHASE = SEND`, `REQ` or any of the twelve documented commands, is taken by the transport as
it is, loads the timer and begins the wait, and changes nothing else (R181, R182, R212). -/
def Obligations.RequestFrameIsSent : Prop :=
  ∀ s : State, s.phase = .send →
    (∀ i : Instr, i.port = .transmit →
      ∃ f : Frame, f.toList = encode i ∧
        exec i s = .next { s with txlog := s.txlog ++ [f], timer := s.timeoutMs, phase := .wait }) ∧
    (∀ type len cmd body, (Instr.req type len cmd body).port = .transmit) ∧
    (∀ len body, (Instr.eepromSetpos len body).port = .transmit ∧ (Instr.eepromRead len body).port = .transmit ∧
      (Instr.eepromWrite len body).port = .transmit ∧ (Instr.eepromReadat len body).port = .transmit ∧
      (Instr.eepromAuxread1 len body).port = .transmit ∧ (Instr.eepromAuxread2 len body).port = .transmit ∧
      (Instr.stateRead len body).port = .transmit ∧ (Instr.stateWrite1 len body).port = .transmit ∧
      (Instr.dptxCtrl1 len body).port = .transmit ∧ (Instr.dptxCtrl2 len body).port = .transmit ∧
      (Instr.dptxData1 len body).port = .transmit ∧ (Instr.dptxData2 len body).port = .transmit)

/-- A frame is presented to a port that is not ready: outside `SEND` no request goes out, outside `WAIT` a received frame stays
at the head of `RXQ`; nothing else changes (the model's reading of R80 and R81, log entry 15). -/
def Obligations.FrameAtAClosedPort : Prop :=
  ∀ (i : Instr) (s : State),
    (i.port = .transmit → s.phase ≠ .send → exec i s = .next s) ∧
    (i.port = .receive → s.phase ≠ .wait → exec i s = .next { s with rxq := encode i :: s.rxq })

/-- A received frame of class `RSP.ACK` or `RSP.NACK` whose length field is 1 to 61 and whose bytes sum to 0 ends the
transaction with `ACK` or `NACK` and its fields in the response registers (R155, R156, R158, R184, R186). -/
def Obligations.ResponseEndsTheTransaction : Prop :=
  ∀ (s : State) (type : Byte) (len : BitVec 6) (cmd : BitVec 7) (body : FrameBody),
    s.phase = .wait → 1 ≤ len.toNat → len.toNat ≤ 61 →
    (sum8 (encode (.rspAck type len cmd body)) = 0 →
      exec (.rspAck type len cmd body) s = .next { s with
        rxCount := 64, rxbuf := frameOf (encode (.rspAck type len cmd body))
        rspType := type, rspCmd := cmd, rspAck := true
        rspPlen := BitVec.ofNat 8 (len.toNat - 1), rspPayload := fit 61 (body.toList.take (len.toNat - 1))
        result := .ack, cause := .none, done := true, phase := .idle }) ∧
    (sum8 (encode (.rspNack type len cmd body)) = 0 →
      exec (.rspNack type len cmd body) s = .next { s with
        rxCount := 64, rxbuf := frameOf (encode (.rspNack type len cmd body))
        rspType := type, rspCmd := cmd, rspAck := false
        rspPlen := BitVec.ofNat 8 (len.toNat - 1), rspPayload := fit 61 (body.toList.take (len.toNat - 1))
        result := .nack, cause := .none, done := true, phase := .idle })

/-- A received frame of either class with a length field of 1 to 61 whose bytes do not sum to 0 ends the transaction with
`NO_RESPONSE/CHECKSUM` and sets `CHKERR`, whatever its nack bit; the response registers are not written (R159, R164, R186). -/
def Obligations.BadSumEndsTheTransaction : Prop :=
  ∀ (s : State) (type : Byte) (len : BitVec 6) (cmd : BitVec 7) (body : FrameBody) (i : Instr),
    s.phase = .wait → 1 ≤ len.toNat → len.toNat ≤ 61 →
    (i = .rspAck type len cmd body ∨ i = .rspNack type len cmd body) → sum8 (encode i) ≠ 0 →
    exec i s = .next { s with
      rxCount := 64, rxbuf := frameOf (encode i)
      chkerr := true, result := .noResponse, cause := .checksum, done := true, phase := .idle }

/-- A received frame of either class with a length field of 0, 62 or 63: under `reject` it ends the transaction with
`FRAME_LENGTH_ERROR/LEN_EDGE` before its sum is looked at; under `clamp` its sum decides, and its payload is empty or 61 bytes
(R157, R164, R186). -/
def Obligations.LengthEdgeEndsTheTransaction : Prop :=
  ∀ (s : State) (type : Byte) (len : BitVec 6) (cmd : BitVec 7) (body : FrameBody) (ack : Bool),
    s.phase = .wait → (len = 0 ∨ len = 62 ∨ len = 63) →
    let i : Instr := if ack then .rspAck type len cmd body else .rspNack type len cmd body
    let payload : List Byte := if len = 0 then [] else body.toList
    exec i s = .next
      (if Config.lenEdgePolicy = .reject then
        { s with
          rxCount := 64, rxbuf := frameOf (encode i)
          result := .frameLengthError, cause := .lenEdge, done := true, phase := .idle }
       else if sum8 (encode i) = 0 then
        { s with
          rxCount := 64, rxbuf := frameOf (encode i)
          rspType := type, rspCmd := cmd, rspAck := ack
          rspPlen := BitVec.ofNat 8 payload.length, rspPayload := fit 61 payload
          result := if ack then .ack else .nack
          cause := .none, done := true, phase := .idle }
       else
        { s with
          rxCount := 64, rxbuf := frameOf (encode i)
          chkerr := true, result := .noResponse, cause := .checksum, done := true, phase := .idle })

/-- A received frame of either illegal class ends the transaction with `FRAME_LENGTH_ERROR/LEN_FIELD`, whatever its sum, and
`CHKERR` and the response registers are not written (R113, R153, R164, R186). -/
def Obligations.IllegalLengthEndsTheTransaction : Prop :=
  ∀ (s : State) (type : Byte) (l6 : BitVec 6) (l7 : BitVec 7) (cmd : Byte) (body : FrameBody), s.phase = .wait →
    exec (.illegalLen64To127 type l6 cmd body) s = .next { s with
      rxCount := 64, rxbuf := frameOf (encode (.illegalLen64To127 type l6 cmd body))
      result := .frameLengthError, cause := .lenField, done := true, phase := .idle } ∧
    exec (.illegalLen128To255 type l7 cmd body) s = .next { s with
      rxCount := 64, rxbuf := frameOf (encode (.illegalLen128To255 type l7 cmd body))
      result := .frameLengthError, cause := .lenField, done := true, phase := .idle }

-- Frames of several instructions

/-- No operation of the engine changes a request register or the timeout (R26, R27): no instruction, and no step of the engine,
the transport or the timer. -/
def Obligations.InstructionsKeepTheRequest : Prop :=
  ∀ s t : State, ((∃ i, exec i s = .next t) ∨ (∃ m, engineMove m s = .next t)) →
    t.reqType = s.reqType ∧ t.reqCmd = s.reqCmd ∧ t.reqPlen = s.reqPlen ∧ t.reqPayload = s.reqPayload ∧
      t.timeoutMs = s.timeoutMs

/-- `TXBUF` is written by `TRANSACT` and `ENCODE` alone, and by them, in `IDLE`, with a legal request (R131). -/
def Obligations.OnlyEncodingWritesTxbuf : Prop :=
  ∀ (i : Instr) (s t : State), exec i s = .next t →
    ((i = .transact ∨ i = .encode) ∧ s.phase = .idle ∧ s.reqPlen.toNat ≤ 60 ∧ s.reqCmd.toNat < 0x80 ∧
      t.txbuf = packetEncode s.reqType s.reqCmd (s.reqPayload.toList.take s.reqPlen.toNat)) ∨
    t.txbuf = s.txbuf

/-- What the operation words leave as it was: the transport, the timer, the host's side and `OVR` in `IDLE`; and every location
of the window outside `STATUS`, `RESULT`, `CAUSE`, `PHASE`, `RX_COUNT`, the response registers and the two frame buffers. -/
def Obligations.OperationWordsFrame : Prop :=
  ∀ (i : Instr) (s t : State), i.port = .ctrl → exec i s = .next t →
    t.txlog = s.txlog ∧ t.rxq = s.rxq ∧ t.timer = s.timer ∧ t.hostData = s.hostData ∧ t.inputs = s.inputs ∧
    (s.phase = .idle → t.ovr = s.ovr) ∧
    (∀ a : BitVec 9,
      (a.toNat = 0x000 ∨ (0x004 ≤ a.toNat ∧ a.toNat ≤ 0x006) ∨ (0x008 ≤ a.toNat ∧ a.toNat ≤ 0x009) ∨
        (0x00f ≤ a.toNat ∧ a.toNat < 0x080) ∨ (0x0bd ≤ a.toNat ∧ a.toNat ≤ 0x0bf) ∨ 0x140 ≤ a.toNat) →
      t.windowRead a = s.windowRead a)

/-- What the frames leave as it was. A request frame that goes out writes the timer, `PHASE` and `TXLOG` only: every location of
the window but `STATUS` and `PHASE` reads as before. A received frame writes nothing of the transport's log or of the timer,
and every location of the window but `STATUS`, `RESULT`, `CAUSE`, `PHASE`, `RX_COUNT`, the response registers and `RXBUF` reads
as before (R26, R39, R181, R184). -/
def Obligations.FramesFrame : Prop :=
  ∀ (i : Instr) (s t : State), exec i s = .next t →
    (i.port = .transmit →
      t.rxq = s.rxq ∧ t.done = s.done ∧ t.chkerr = s.chkerr ∧ t.ovr = s.ovr ∧ t.hostData = s.hostData ∧
      t.inputs = s.inputs ∧ (∀ a : BitVec 9, a ≠ 0x001 → a ≠ 0x007 → t.windowRead a = s.windowRead a)) ∧
    (i.port = .receive →
      t.txlog = s.txlog ∧ t.timer = s.timer ∧ t.ovr = s.ovr ∧ t.hostData = s.hostData ∧ t.inputs = s.inputs ∧
      (∀ a : BitVec 9, (a.toNat = 0x000 ∨ (0x004 ≤ a.toNat ∧ a.toNat ≤ 0x006) ∨ (0x008 ≤ a.toNat ∧ a.toNat ≤ 0x009) ∨
          (0x00f ≤ a.toNat ∧ a.toNat < 0x080) ∨ (0x0bd ≤ a.toNat ∧ a.toNat < 0x100) ∨ 0x140 ≤ a.toNat) →
        t.windowRead a = s.windowRead a))

-- The register window

/-- In `IDLE`, a host write to an operand register (`REQ_TYPE`, `REQ_CMD`, `REQ_PLEN`, `TIMEOUT_MS`, `RX_COUNT`, `REQ_PAYLOAD`,
`RXBUF`, at the addresses of R61) stores the byte: the location reads it, every other location reads as before, and the transport
and the timer are as they were (R49, R61, R68). -/
def Obligations.WindowReadAfterWrite : Prop :=
  ∀ (s : State) (a : BitVec 9) (v : Byte), s.phase = .idle →
    ((0x004 ≤ a.toNat ∧ a.toNat ≤ 0x006) ∨ a.toNat = 0x008 ∨ a.toNat = 0x009 ∨ a.toNat = 0x00e ∨
      (0x040 ≤ a.toNat ∧ a.toNat ≤ 0x07b) ∨ (0x100 ≤ a.toNat ∧ a.toNat ≤ 0x13f)) →
    ∃ t, hostWrite a v s = .next t ∧ t.windowRead a = v ∧ (∀ b, b ≠ a → t.windowRead b = s.windowRead b) ∧
      t.txlog = s.txlog ∧ t.rxq = s.rxq ∧ t.timer = s.timer ∧ t.hostData = s.hostData ∧ t.inputs = s.inputs

/-- While a transaction is in flight, a host write to an operand register, at the addresses of R61, is ignored and sets `OVR`; a
write to `STATUS` and the word `0x00` to `CTRL` are not refused (R73). -/
def Obligations.BusyWritesAreRefused : Prop :=
  ∀ (s : State) (a : BitVec 9) (v : Byte), s.phase ≠ .idle →
    ((0x004 ≤ a.toNat ∧ a.toNat ≤ 0x006) ∨ a.toNat = 0x008 ∨ a.toNat = 0x009 ∨ a.toNat = 0x00e ∨
      (0x040 ≤ a.toNat ∧ a.toNat ≤ 0x07b) ∨ (0x100 ≤ a.toNat ∧ a.toNat ≤ 0x13f) →
      hostWrite a v s = .next { s with ovr := true }) ∧
    (v ≠ 0x00 → hostWrite 0x000 v s = .next { s with ovr := true }) ∧
    hostWrite 0x000 0x00 s = .next s ∧
    hostWrite 0x001 v s = .next { s with
      done := s.done && !v.getLsbD 1, chkerr := s.chkerr && !v.getLsbD 2, ovr := s.ovr && !v.getLsbD 3 }

/-- A reserved location reads `0x00` and ignores writes, in every phase, without a flag; and no access to the window stops
(R62, the map of R61). -/
def Obligations.ReservedLocations : Prop :=
  ∀ (s : State) (a : BitVec 9) (v : Byte),
    (∃ t, hostRead a s = .next t) ∧ (∃ t, hostWrite a v s = .next t) ∧
    ((0x00f ≤ a.toNat ∧ a.toNat ≤ 0x03f) ∨ (0x07c ≤ a.toNat ∧ a.toNat ≤ 0x07f) ∨
      (0x0bd ≤ a.toNat ∧ a.toNat ≤ 0x0bf) ∨ 0x140 ≤ a.toNat →
    s.windowRead a = 0x00 ∧ hostWrite a v s = .next s)

/-- A host write to a read-only location is ignored in every phase and sets no flag (R72, the map of R61). -/
def Obligations.ReadOnlyLocations : Prop :=
  ∀ (s : State) (a : BitVec 9) (v : Byte),
    (a.toNat = 0x002 ∨ a.toNat = 0x003 ∨ a.toNat = 0x007 ∨ (0x00a ≤ a.toNat ∧ a.toNat ≤ 0x00d) ∨
      (0x080 ≤ a.toNat ∧ a.toNat ≤ 0x0bc) ∨ (0x0c0 ≤ a.toNat ∧ a.toNat ≤ 0x0ff)) →
    hostWrite a v s = .next s

/-- A host read gives the byte that the map of R61 names and changes no state of the engine or the transport (R68): the
registers and arrays at their addresses, and the codes of `RESULT`, `CAUSE` and `PHASE` as R33, R34 and R42 number them. -/
def Obligations.ReadsChangeNothing : Prop :=
  ∀ s : State,
    (∀ a : BitVec 9, performMove (.read a) s = .next { s with hostData := s.windowRead a }) ∧
    s.windowRead 0x000 = 0x00 ∧
    (s.windowRead 0x002 = match s.result with
      | .none => 0
      | .ack => 1
      | .nack => 2
      | .noResponse => 3
      | .frameLengthError => 4
      | .badRequest => 5
      | .encoded => 6
      | .noPacket => 7) ∧
    (s.windowRead 0x003 = match s.cause with
      | .none => 0
      | .timeout => 1
      | .emptyDelivery => 2
      | .checksum => 3
      | .rxSize => 4
      | .lenField => 5
      | .lenEdge => 6
      | .payloadTooLong => 7
      | .cmdBit7 => 8
      | .badOp => 9) ∧
    s.windowRead 0x004 = s.reqType ∧ s.windowRead 0x005 = s.reqCmd ∧ s.windowRead 0x006 = s.reqPlen ∧
    (s.windowRead 0x007 = match s.phase with
      | .idle => 0
      | .send => 1
      | .wait => 2) ∧
    s.windowRead 0x00a = s.rspType ∧ s.windowRead 0x00b = s.rspCmd.setWidth 8 ∧
    s.windowRead 0x00c = (if s.rspAck then 1 else 0) ∧ s.windowRead 0x00d = s.rspPlen ∧
    s.windowRead 0x00e = s.rxCount ∧
    (∀ (i : Nat) (h : i < 60), s.windowRead (BitVec.ofNat 9 (0x040 + i)) = s.reqPayload[i]) ∧
    (∀ (i : Nat) (h : i < 61), s.windowRead (BitVec.ofNat 9 (0x080 + i)) = s.rspPayload[i]) ∧
    (∀ (i : Nat) (h : i < 64), s.windowRead (BitVec.ofNat 9 (0x0c0 + i)) = s.txbuf[i]) ∧
    (∀ (i : Nat) (h : i < 64), s.windowRead (BitVec.ofNat 9 (0x100 + i)) = s.rxbuf[i])

/-- `STATUS`, bit by bit: `BUSY` exactly while a transaction is in flight, `DONE`, `CHKERR`, `OVR`, and four zeros; a host
write clears each of the three whose written bit is 1, and changes nothing else, in every phase (R36). -/
def Obligations.StatusReadsAndClears : Prop :=
  ∀ (s : State) (v : Byte),
    ((s.windowRead 0x001).getLsbD 0 = true ↔ s.phase ≠ .idle) ∧
    (s.windowRead 0x001).getLsbD 1 = s.done ∧ (s.windowRead 0x001).getLsbD 2 = s.chkerr ∧
    (s.windowRead 0x001).getLsbD 3 = s.ovr ∧ (∀ k, 4 ≤ k → (s.windowRead 0x001).getLsbD k = false) ∧
    let t : State := { s with
      done := s.done && !v.getLsbD 1, chkerr := s.chkerr && !v.getLsbD 2, ovr := s.ovr && !v.getLsbD 3 }
    hostWrite 0x001 v s = .next t ∧ t.windowRead 0x001 = s.windowRead 0x001 &&& ~~~(v &&& 0x0e)

/-- A flag that the engine sets in the same step in which the host clears it ends up 1 (R76, D5): `DONE` with every end of a
transaction, by a taken delivery, by the expiry and by the expiry of a model without time (log entry 11); `CHKERR` with a bad
sum. -/
def Obligations.SetWinsOverClear : Prop :=
  ∀ (s : State) (v : Byte), s.phase = .wait →
    (∀ d ds, s.rxq = d :: ds →
      ∃ t, performMove (.statusWriteWith v .take) s = .next t ∧ t.phase = .idle ∧ t.done = true ∧
        (packetDecode Config.lenEdgePolicy d = .checksumError → t.chkerr = true)) ∧
    (s.rxq = [] →
      (s.timer = 0 → ∃ t, performMove (.statusWriteWith v .expire) s = .next t ∧ t.phase = .idle ∧ t.done = true) ∧
      ∃ t, performMove (.statusWriteWith v .expireUntimed) s = .next t ∧ t.phase = .idle ∧ t.done = true)

/-- `TIMEOUT_MS` is little-endian in the window (R65). -/
def Obligations.TimeoutIsLittleEndian : Prop :=
  ∀ s : State, s.timeoutMs = s.windowRead 0x009 ++ s.windowRead 0x008

-- The steps

/-- A step whose bytes decode runs the decoded instruction, with nothing around it but the move leaving the list of pending
moves (log entries 1, 2): an operation word written to `CTRL`, the frame in `TXBUF` on a ready transport, the head of `RXQ` in
`WAIT` (which leaves the queue). -/
def Obligations.StepRunsTheDecodedInstruction : Prop :=
  ∀ (s : State) (ms : List Move) (i : Instr),
    (∀ v, s.inputs = .write 0x000 v :: ms → decode .ctrl [v] = .ok i → step s = exec i { s with inputs := ms }) ∧
    (s.inputs = .engine .send :: ms → s.phase = .send → decode .transmit s.txbuf.toList = .ok i →
      step s = exec i { s with inputs := ms }) ∧
    (∀ d ds, s.inputs = .engine .take :: ms → s.phase = .wait → s.rxq = d :: ds → decode .receive d = .ok i →
      step s = exec i { s with inputs := ms, rxq := ds })

/-- The send step: exactly the frame in `TXBUF` is appended to `TXLOG`, the timer is loaded from `TIMEOUT_MS`, and the wait
begins; outside `SEND` nothing happens (R181, R182). -/
def Obligations.SendStepSendsTxbuf : Prop :=
  ∀ s : State, performMove (.engine .send) s = .next
    (if s.phase = .send then { s with txlog := s.txlog ++ [s.txbuf], timer := s.timeoutMs, phase := .wait } else s)

/-- The take step: where `PHASE` is not `WAIT` or `RXQ` is empty it is not enabled and nothing changes (R172); else the
delivery, of any length up to 255, is recorded, taken off the queue, classified, and the transaction ends (R184 to R186). The
response registers and `CHKERR` change only where the table of R186 says so. -/
def Obligations.TakeStepClassifies : Prop :=
  ∀ s : State,
    (s.phase ≠ .wait ∨ s.rxq = [] → performMove (.engine .take) s = .next s) ∧
    ∀ (d : Delivery) (ds : List Delivery), s.phase = .wait → s.rxq = d :: ds → d.length ≤ 255 →
    let t : State := { s with
      rxq := ds, rxCount := BitVec.ofNat 8 d.length, rxbuf := fit 64 d, done := true, phase := .idle }
    (d = [] → performMove (.engine .take) s = .next { t with result := .noResponse, cause := .emptyDelivery }) ∧
    (∀ e, d ≠ [] → packetDecode Config.lenEdgePolicy d = .frameLengthError e →
      performMove (.engine .take) s = .next { t with
        result := .frameLengthError
        cause := match e with
          | .rxSize => .rxSize
          | .lenField => .lenField
          | .lenEdge => .lenEdge }) ∧
    (packetDecode Config.lenEdgePolicy d = .checksumError →
      performMove (.engine .take) s = .next { t with chkerr := true, result := .noResponse, cause := .checksum }) ∧
    (∀ p, packetDecode Config.lenEdgePolicy d = .ok p →
      performMove (.engine .take) s = .next { t with
        rspType := p.type, rspCmd := p.command, rspAck := p.ack
        rspPlen := BitVec.ofNat 8 p.payload.length, rspPayload := fit 61 p.payload
        result := if p.ack then .ack else .nack
        cause := .none })

/-- The tick and the expiry: a tick counts down in `WAIT` while the timer is above 0 and changes nothing otherwise (R187); the
expiry ends the transaction with `NO_RESPONSE/TIMEOUT` when `PHASE = WAIT`, `TIMER = 0` and `RXQ` is empty, and is not enabled
otherwise: a waiting delivery wins (R188, R191). The expiry of a model without time, which this model keeps beside it (log
entry 11), does not ask the timer (R190). -/
def Obligations.TickAndExpiry : Prop :=
  ∀ s : State,
    performMove (.engine .tick) s = .next
      (if s.phase = .wait ∧ 0 < s.timer.toNat then { s with timer := s.timer - 1 } else s) ∧
    performMove (.engine .expire) s = .next
      (if s.phase = .wait ∧ s.timer = 0 ∧ s.rxq = [] then
        { s with result := .noResponse, cause := .timeout, phase := .idle, done := true }
       else s) ∧
    performMove (.engine .expireUntimed) s = .next
      (if s.phase = .wait ∧ s.rxq = [] then
        { s with result := .noResponse, cause := .timeout, phase := .idle, done := true }
       else s)

/-- A delivery arriving in any phase goes to the end of `RXQ` and changes no engine state (R47, R193, R280). That it is kept
however many wait is the model's choice of an unbounded queue (log entry 8). -/
def Obligations.DeliveryOnlyQueues : Prop :=
  ∀ (s : State) (d : Delivery), performMove (.deliver d) s = .next { s with rxq := s.rxq ++ [d] }

/-- Reset in any phase puts every element of the engine's state at its reset value and does not touch the queue; `TXLOG` keeps
what it holds, and in `SEND` it may have got the frame, as the move says (R48, R310, R312, log entry 10). -/
def Obligations.ResetClearsTheEngine : Prop :=
  ∀ (s : State) (taken : Bool), ∃ t, performMove (.reset taken) s = .next t ∧
    t.reqType = 0 ∧ t.reqCmd = 0 ∧ t.reqPlen = 0 ∧ t.reqPayload = Vector.replicate 60 0 ∧ t.timeoutMs = 250 ∧
    t.rspType = 0 ∧ t.rspCmd = 0 ∧ t.rspAck = false ∧ t.rspPlen = 0 ∧ t.rspPayload = Vector.replicate 61 0 ∧
    t.result = .none ∧ t.cause = .none ∧ t.windowRead 0x001 = 0x00 ∧
    t.txbuf = Vector.replicate 64 0 ∧ t.rxbuf = Vector.replicate 64 0 ∧ t.rxCount = 0 ∧
    t.phase = .idle ∧ t.timer = 0 ∧ t.rxq = s.rxq ∧
    (t.txlog = s.txlog ∨ (s.phase = .send ∧ taken = true ∧ t.txlog = s.txlog ++ [s.txbuf]))

-- Whole-machine rules

/-- No step stops: no host access raises anything and no error halts the engine (R62, R282). That every state has a next one is
the model's reading (log entry 23); where nothing can happen, as in a send that hangs, that step changes nothing (the model's
choice, log entry 3). -/
def Obligations.EveryStateSteps : Prop :=
  ∀ s : State, ∃ t, step s = .next t

/-- The invariant of the engine is kept by every step, from every state that meets it (R34, R43, R75, R77, R158, R277). -/
def Obligations.StepKeepsTheInvariant : Prop :=
  ∀ s t : State, s.Inv → step s = .next t → t.Inv

/-- The invariant holds after reset. -/
def Obligations.ResetMeetsTheInvariant : Prop :=
  State.reset.Inv

/-- The movements of `PHASE` and the move that makes each (R196): from `IDLE` only to `SEND`, by `CTRL = 0x01` on a legal
request; from `SEND` only to `WAIT`, by the transport taking the frame; from `WAIT` only to `IDLE`, by a taken delivery, by the
expiry with the timer at 0 and no delivery waiting, or by the expiry that does not ask the timer, which the table does not have
(the model's choice, log entry 11); and by reset from anywhere to `IDLE`. -/
def Obligations.PhaseMovesByTheTable : Prop :=
  ∀ s t : State, step s = .next t → t.phase ≠ s.phase →
    let m : Move := s.inputs.head?.getD (quietMove s)
    let isStepOf (e : EngineMove) : Prop := m = .engine e ∨ ∃ v, m = .statusWriteWith v e
    (s.phase = .idle ∧ t.phase = .send ∧ s.requestCause = none ∧ m = .write 0x000 0x01) ∨
    (s.phase = .send ∧ t.phase = .wait ∧ isStepOf .send ∧ t.txlog = s.txlog ++ [s.txbuf]) ∨
    (s.phase = .wait ∧ t.phase = .idle ∧ t.done = true ∧ t.result ≠ .none ∧
      ((isStepOf .take ∧ ∃ d, s.rxq = d :: t.rxq) ∨
       (isStepOf .expire ∧ s.timer = 0 ∧ s.rxq = [] ∧ t.result = .noResponse ∧ t.cause = .timeout) ∨
       (isStepOf .expireUntimed ∧ s.rxq = [] ∧ t.result = .noResponse ∧ t.cause = .timeout))) ∨
    (t.phase = .idle ∧ ∃ taken, m = .reset taken)

/-- From a state that meets the invariant, the transport's log grows only by one frame, in `SEND`, and that frame is the one
encoded from the request registers (R77, R181). -/
def Obligations.SentFrameIsTheRequest : Prop :=
  ∀ s t : State, s.Inv → step s = .next t →
    t.txlog = s.txlog ∨
    (s.phase = .send ∧
      t.txlog = s.txlog ++ [packetEncode s.reqType s.reqCmd (s.reqPayload.toList.take s.reqPlen.toNat)])

/-- `RXQ` is a queue: a step leaves it, appends one delivery at its end, or, in `WAIT`, takes its head (R47, R296). -/
def Obligations.DeliveriesLeaveInOrder : Prop :=
  ∀ s t : State, step s = .next t →
    t.rxq = s.rxq ∨ (∃ d, t.rxq = s.rxq ++ [d]) ∨ (s.phase = .wait ∧ ∃ d, s.rxq = d :: t.rxq)

/-- In `IDLE`, what the last operation left stays until the host writes `CTRL` with a word other than `NOP` or writes `RXBUF`
or `RX_COUNT` itself, or reset comes: no other move changes it (R75, R197). -/
def Obligations.ResultsStayUntilTheNextOperation : Prop :=
  ∀ s t : State, s.phase = .idle → step s = .next t →
    (∀ a v, s.inputs.head? = some (.write a v) →
      (locate a = .ctrl → v = 0x00) ∧ locate a ≠ .rxCount ∧ ∀ i, locate a ≠ .rxbuf i) →
    (∀ taken, s.inputs.head? ≠ some (.reset taken)) →
    t.result = s.result ∧ t.cause = s.cause ∧ t.rspType = s.rspType ∧ t.rspCmd = s.rspCmd ∧ t.rspAck = s.rspAck ∧
      t.rspPlen = s.rspPlen ∧ t.rspPayload = s.rspPayload ∧ t.rxbuf = s.rxbuf ∧ t.rxCount = s.rxCount ∧
      t.txbuf = s.txbuf

/-- The sticky flags stay set until the host writes 1 to them or reset comes (R36, R286). -/
def Obligations.StickyFlagsStay : Prop :=
  ∀ s t : State, step s = .next t → (∀ taken, s.inputs.head? ≠ some (.reset taken)) →
    (s.chkerr = true →
      (∀ v m, (s.inputs.head? = some (.write 0x001 v) ∨ s.inputs.head? = some (.statusWriteWith v m)) →
        v.getLsbD 2 = false) → t.chkerr = true) ∧
    (s.ovr = true →
      (∀ v m, (s.inputs.head? = some (.write 0x001 v) ∨ s.inputs.head? = some (.statusWriteWith v m)) →
        v.getLsbD 3 = false) → t.ovr = true)

/-- The send can hang: as long as the transport is never ready and no reset comes, the engine stays in `SEND` with nothing
sent, `BUSY` 1 and `DONE` never set, however many steps are taken (R178, R322). -/
def Obligations.SendHangsWithoutTheTransport : Prop :=
  ∀ (s : State) (k : Nat), s.phase = .send →
    (∀ m ∈ s.inputs, m ≠ .engine .send ∧ (∀ v, m ≠ .statusWriteWith v .send) ∧ ∀ taken, m ≠ .reset taken) →
    ∃ t, Host.Core.run core k s = .next t ∧ t.phase = .send ∧ (t.windowRead 0x001).getLsbD 0 = true ∧
      (s.done = false → t.done = false) ∧ t.txlog = s.txlog ∧ t.txbuf = s.txbuf

/-- A wait ends: with no move pending, where the model's quiet moves run (its choice, log entry 3), the transaction is over
after at most `TIMER + 1` steps, with a result (R199). -/
def Obligations.WaitEndsWithinTheTimer : Prop :=
  ∀ s : State, s.phase = .wait → s.inputs = [] →
    ∃ k t, k ≤ s.timer.toNat + 1 ∧ Host.Core.run core k s = .next t ∧ t.phase = .idle ∧ t.done = true ∧
      t.result ≠ .none

/-- One transaction is the blocking call of R174: from `IDLE` with a legal request and an empty queue, the start, the send, one
delivery and the take, pending in this order (log entry 2), end in `IDLE` with the outcome of the delivery. The frame sent is
the request's, the request registers are as they were, and the response registers hold the packet or are clear. -/
def Obligations.TransactionIsTheBlockingCall : Prop :=
  ∀ (s : State) (d : Delivery) (ms : List Move),
    s.phase = .idle → s.rxq = [] → s.reqPlen.toNat ≤ 60 → s.reqCmd.toNat < 0x80 → d.length ≤ 255 →
    s.inputs = [.write 0x000 0x01, .engine .send, .deliver d, .engine .take] ++ ms →
    let f : Frame := packetEncode s.reqType s.reqCmd (s.reqPayload.toList.take s.reqPlen.toNat)
    let t : State := { s with
      inputs := ms, txbuf := f, txlog := s.txlog ++ [f], timer := s.timeoutMs
      rxCount := BitVec.ofNat 8 d.length, rxbuf := fit 64 d
      rspType := 0, rspCmd := 0, rspAck := false, rspPlen := 0, rspPayload := Vector.replicate 61 0
      done := true, phase := .idle }
    Host.Core.run core 4 s = .next
      (if d = [] then { t with result := .noResponse, cause := .emptyDelivery }
       else match packetDecode Config.lenEdgePolicy d with
        | .frameLengthError .rxSize => { t with result := .frameLengthError, cause := .rxSize }
        | .frameLengthError .lenField => { t with result := .frameLengthError, cause := .lenField }
        | .frameLengthError .lenEdge => { t with result := .frameLengthError, cause := .lenEdge }
        | .checksumError => { t with result := .noResponse, cause := .checksum, chkerr := true }
        | .ok p => { t with
            rspType := p.type, rspCmd := p.command, rspAck := p.ack
            rspPlen := BitVec.ofNat 8 p.payload.length, rspPayload := fit 61 p.payload
            result := if p.ack then .ack else .nack
            cause := .none })

/-- A device that sends the request frame back is acknowledged with the request's own type, command and payload, under either
length-edge policy (R99, R139). -/
def Obligations.EchoedRequestIsAcknowledged : Prop :=
  ∀ (s : State) (ms : List Move),
    s.phase = .idle → s.rxq = [] → s.reqPlen.toNat ≤ 60 → s.reqCmd.toNat < 0x80 →
    s.inputs = [.write 0x000 0x01, .engine .send,
      .deliver (packetEncode s.reqType s.reqCmd (s.reqPayload.toList.take s.reqPlen.toNat)).toList, .engine .take] ++ ms →
    ∃ t, Host.Core.run core 4 s = .next t ∧ t.result = .ack ∧ t.cause = .none ∧ t.rspType = s.reqType ∧
      t.rspCmd.setWidth 8 = s.reqCmd ∧ t.rspAck = true ∧ t.rspPlen = s.reqPlen ∧
      t.rspPayload.toList.take t.rspPlen.toNat = s.reqPayload.toList.take s.reqPlen.toNat

-- Host software above the engine

/-- The chunks of a transfer: none longer than the chunk size, none empty, all full but the last, together the whole (R233). -/
def Obligations.ChunksCoverTheTransfer : Prop :=
  ∀ total chunk : Nat, 0 < total → 0 < chunk →
    (chunkSizes total chunk).sum = total ∧ (∀ n ∈ chunkSizes total chunk, 0 < n ∧ n ≤ chunk) ∧
      (∀ n ∈ (chunkSizes total chunk).dropLast, n = chunk)

/-- A read whose every chunk is acknowledged in full returns the concatenation in request order (R237), by either convention:
inline-offset (R235), and position-then-stream once its positioning request is acknowledged, whatever that acknowledge carries
(R234; log entry 20). -/
def Obligations.ReadReturnsTheConcatenation : Prop :=
  ∀ (type cmd : Byte) (positionOf : Nat → List Byte) (total start chunk : Nat) (payloads : List (List Byte)) (p : List Byte),
    0 < total → 0 < chunk → payloads.map List.length = chunkSizes total chunk →
    (payloads.map TxResult.ack).foldl (readAfter total) (startRead total (inlineRead type cmd total start chunk)) =
      .done payloads.flatten ∧
    (TxResult.ack p :: payloads.map TxResult.ack).foldl (readAfter total)
      (startRead total (streamRead positionOf total start chunk)) = .done payloads.flatten

/-- The first result other than an acknowledge ends a read for good: nothing more is issued and what was read is gone (R238).
That the positioning request's failure does so too is the model's choice (log entry 27). -/
def Obligations.ReadAbortsAtTheFirstFailure : Prop :=
  ∀ (total : Nat) (got : List Byte) (todo : List ReadItem) (r : TxResult) (rs : List TxResult), r.isAck = false →
    let st := (r :: rs).foldl (readAfter total) (.running got todo)
    st = .aborted (some r) ∧ st.next = none

/-- After a written chunk, a poll that acknowledges lets the write go on, and ten negative polls end it with `WriteBusyTimeout`
and no further request; until then the next request is a poll on the same pair (R246, R247). A chunk costs at most ten polls,
also where some of them go unanswered (R263; how the write then ends is open, log entry 32). -/
def Obligations.TenNegativePollsEndTheWrite : Prop :=
  ∀ (type cmd : Byte) (todo : List Request) (polls : List TxResult),
    (∀ r ∈ polls, (∃ c p, r = .nack c p) ∨ ∃ c, r = .noResponse c) →
    (polls.length < 10 →
      polls.foldl writeAfter (.polling [] todo) = .polling polls todo ∧
      (WriteStatus.polling polls todo).next type cmd = some ⟨type, cmd, []⟩ ∧
      ∀ p, writeAfter (.polling polls todo) (.ack p) = startWrite todo) ∧
    (10 ≤ polls.length →
      (polls.foldl writeAfter (.polling [] todo)).next type cmd = none ∧
      ((∀ r ∈ polls, r.isNack = true) → polls.foldl writeAfter (.polling [] todo) = .busyTimeout))

/-- The downstream EDID flow. It starts for the selectors 1 and 2 alone, with a probe on the control register of that output,
`0x10` with `0x10` or `0x70`, and the two outputs have different ones (R225, R256, R257; which is which is open, log entry 30).
A probe acknowledged with exactly one byte is followed by the switch, any other ends the flow (R257). An acknowledged switch is
followed by the bulk read, or by the restore where `readBlock` refuses the read (log entry 30); a switch that is not acknowledged
ends the flow (R258, log entry 20). Once the switch is acknowledged, whatever the results are, the flow ends only through the
restore, which is on the register that was probed and switched and whose payload carries the probed byte (R260). A failed bulk
read ends in failure, a read that succeeded in its bytes once the restore is acknowledged (R261). -/
def Obligations.EdidFlowAlwaysRestores : Prop :=
  (∀ (selector : Nat) (planFor : Output → EdidPlan),
    (startEdid selector planFor = none ↔ selector ≠ 1 ∧ selector ≠ 2) ∧
    ∀ plan st, startEdid selector planFor = some (plan, st) →
      outputOf selector = some plan.output ∧ st = .probing ∧
        st.next plan = some (plan.output.controlRequest plan.probe)) ∧
  (∀ (o : Output) (payload : List Byte), (o.controlRequest payload).type = 0x10 ∧
    ((o.controlRequest payload).cmd = 0x10 ∨ (o.controlRequest payload).cmd = 0x70)) ∧
  (∀ payload, (Output.one.controlRequest payload).cmd ≠ (Output.two.controlRequest payload).cmd) ∧
  ∀ (plan : EdidPlan) (v : Byte) (read : ReadStatus) (r : TxResult),
    edidAfter plan .probing (.ack [v]) = .switching v ∧
    ((∀ b, r ≠ .ack [b]) → edidAfter plan .probing r = .inputNotPresent) ∧
    (EdidStatus.switching v).next plan = some (plan.output.controlRequest plan.switch) ∧
    (r.isAck = true →
      (∀ items, plan.bulk = some items → edidAfter plan (.switching v) r = .reading v (.running [] items)) ∧
      (plan.bulk = none → edidAfter plan (.switching v) r = .restoring v none)) ∧
    (r.isAck = false → edidAfter plan (.switching v) r = .setFailed) ∧
    ((∃ read', edidAfter plan (.reading v read) r = .reading v read') ∨
      ∃ got, edidAfter plan (.reading v read) r = .restoring v got) ∧
    (∀ got, (EdidStatus.restoring v got).next plan =
      some (plan.output.controlRequest (plan.restoreHead ++ v :: plan.restoreTail))) ∧
    (r.isAck = false → ∀ got todo, read = .running got todo →
      edidAfter plan (.reading v read) r = .restoring v none) ∧
    (∀ bytes, readAfter 256 read r = .done bytes → edidAfter plan (.reading v read) r = .restoring v (some bytes)) ∧
    edidAfter plan (.restoring v none) r = .failed ∧
    (∀ bytes, r.isAck = true → edidAfter plan (.restoring v (some bytes)) r = .done bytes)
end

