-- ==== Sys2Proof/Laws/Codec.lean ====
section
/-! SUPPORT. Small lemmas about byte strings and about the shape of an encoded frame. -/

namespace Sys2Proof.Machine

@[simp] theorem sumNat_nil : sumNat [] = 0 := rfl

@[simp] theorem sumNat_cons (b : Byte) (bs : List Byte) : sumNat (b :: bs) = b.toNat + sumNat bs := rfl

@[simp] theorem sumNat_append (a b : List Byte) : sumNat (a ++ b) = sumNat a + sumNat b := by
  induction a with
  | nil => simp
  | cons x xs ih => simp [ih]; omega

@[simp] theorem sumNat_zeros (n : Nat) : sumNat (List.replicate n 0#8) = 0 := by
  induction n with
  | zero => rfl
  | succ n ih => rw [List.replicate_succ, sumNat_cons, ih]; rfl

theorem fit_toList (n : Nat) (l : List Byte) :
    (fit n l).toList = l.take n ++ List.replicate (n - l.length) 0 := rfl

theorem fit_toList_of_length {n : Nat} {l : List Byte} (h : l.length = n) : (fit n l).toList = l := by
  subst h
  simp [fit_toList]

theorem fit_getElem {n : Nat} (l : List Byte) (i : Nat) (h : i < n) : (fit n l)[i] = l.getD i 0 := by
  have hl : (fit n l)[i] = (fit n l).toList[i]'(by simpa using h) := by simp
  rw [hl]
  simp only [fit_toList]
  by_cases hi : i < l.length
  · rw [List.getElem_append_left (by simp; omega)]
    simp [hi]
  · rw [List.getElem_append_right (by simp; omega)]
    simp [List.getD, List.getElem?_eq_none (Nat.le_of_not_lt hi)]

theorem fit_toList_self {n : Nat} (v : Vector Byte n) : fit n v.toList = v := by
  apply Vector.toList_inj.mp
  exact fit_toList_of_length (by simp)

theorem packetBytes_length {payload : List Byte} (type command : Byte) (h : payload.length ≤ 60) :
    (packetBytes type command payload).length = 64 := by
  simp [packetBytes, packetHead]; omega

theorem packetEncode_toList {payload : List Byte} (type command : Byte) (h : payload.length ≤ 60) :
    (packetEncode type command payload).toList = packetBytes type command payload :=
  fit_toList_of_length (packetBytes_length type command h)

theorem slice_length (a b : Nat) (s : List Byte) : (slice a b s).length = min b s.length - a := by
  simp [slice]

/-- What `decode` answers, check by check in the order of R164. -/
theorem packetDecode_cases (policy : LenEdgePolicy) (d : Delivery) :
    (d.length ≠ 64 ∧ packetDecode policy d = .frameLengthError .rxSize) ∨
    (d.length = 64 ∧ 64 ≤ (d.getD 1 0).toNat ∧ packetDecode policy d = .frameLengthError .lenField) ∨
    (d.length = 64 ∧ (d.getD 1 0).toNat < 64 ∧ lenEdgeValue (d.getD 1 0).toNat = true ∧ policy = .reject ∧
      packetDecode policy d = .frameLengthError .lenEdge) ∨
    (d.length = 64 ∧ (d.getD 1 0).toNat < 64 ∧ ¬(lenEdgeValue (d.getD 1 0).toNat = true ∧ policy = .reject) ∧
      sum8 d ≠ 0 ∧ packetDecode policy d = .checksumError) ∨
    (d.length = 64 ∧ (d.getD 1 0).toNat < 64 ∧ ¬(lenEdgeValue (d.getD 1 0).toNat = true ∧ policy = .reject) ∧
      sum8 d = 0 ∧ packetDecode policy d = .ok (packetFields d)) := by
  unfold packetDecode
  simp only [Config.frameLen, Config.lenLimit]
  by_cases h1 : d.length = 64
  · by_cases h2 : 64 ≤ (d.getD 1 0).toNat
    · exact .inr (.inl ⟨h1, h2, by rw [if_neg (by simp [h1]), if_pos h2]⟩)
    · have h2' : (d.getD 1 0).toNat < 64 := by omega
      rw [if_neg (by simp [h1]), if_neg h2]
      by_cases h3 : lenEdgeValue (d.getD 1 0).toNat = true ∧ policy = .reject
      · exact .inr (.inr (.inl ⟨h1, h2', h3.1, h3.2, by rw [if_pos h3]⟩))
      · rw [if_neg h3]
        by_cases h4 : sum8 d = 0
        · exact .inr (.inr (.inr (.inr ⟨h1, h2', h3, h4, by rw [if_neg (by simp [h4])]⟩)))
        · exact .inr (.inr (.inr (.inl ⟨h1, h2', h3, h4, by rw [if_pos h4]⟩)))
  · exact .inl ⟨h1, by rw [if_pos h1]⟩

/-- The payload of an accepted packet has at most 61 bytes (R31). -/
theorem packetFields_payload_length (d : Delivery) : (packetFields d).payload.length ≤ 61 := by
  simp only [packetFields, slice_length, Config.hdrLen, Config.frameLen]
  omega

end Sys2Proof.Machine
end

