-- ==== Sys2Proof/Laws/Decode.lean ====
section
/-! SUPPORT. What the decoder reads is what the encoder writes: the bytes of an instruction that a port reads are its own. -/

namespace Sys2Proof

theorem commandRow_bytes {type len cmd : Byte} {body : FrameBody} {i : Instr}
    (h : commandRow type len cmd body = some i) : encode i = type :: len :: cmd :: body.toList := by
  unfold commandRow at h
  repeat' split at h
  all_goals first
    | (cases h; subst_vars; rfl)
    | exact absurd h (by simp)

theorem setWidth_six {len : Byte} (h7 : len.getLsbD 7 = false) (h6 : len.getLsbD 6 = false) :
    (len.setWidth 6).setWidth 8 = len := by
  revert len; decide

theorem setWidth_six_bit6 {len : Byte} (h7 : len.getLsbD 7 = false) (h6 : len.getLsbD 6 = true) :
    (len.setWidth 6).setWidth 8 ||| 0x40 = len := by
  revert len; decide

theorem setWidth_seven_bit7 {b : Byte} (h : b.getLsbD 7 = true) : (b.setWidth 7).setWidth 8 ||| 0x80 = b := by
  revert b; decide

theorem setWidth_seven {b : Byte} (h : b.getLsbD 7 = false) : (b.setWidth 7).setWidth 8 = b := by
  revert b; decide

theorem msb_eq_bit7 (b : Byte) : b.msb = b.getLsbD 7 := rfl

theorem requestLength_bits {len : Byte} (h : requestLength len.toNat = true) : (len.setWidth 6).setWidth 8 = len := by
  revert len; decide

theorem decodeTransmit_bytes {type len cmd : Byte} {body : FrameBody} {i : Instr}
    (h : decodeTransmit type len cmd body = .ok i) : encode i = type :: len :: cmd :: body.toList := by
  unfold decodeTransmit at h
  split at h
  · cases h
    exact commandRow_bytes (by assumption)
  · split at h
    · cases h
    · split at h
      · cases h
        rename_i hm hl
        simp only [encode, requestLength_bits hl]
        rw [setWidth_seven (by rw [← msb_eq_bit7]; simpa using hm)]
      · cases h

theorem decodeReceive_bytes (type len cmd : Byte) (body : FrameBody) :
    encode (decodeReceive type len cmd body) = type :: len :: cmd :: body.toList := by
  unfold decodeReceive
  split
  · simp only [encode, setWidth_seven_bit7 (by assumption)]
  · rename_i h7
    have h7 : len.getLsbD 7 = false := by simpa using h7
    split
    · simp only [encode, setWidth_six_bit6 h7 (by assumption)]
    · rename_i h6
      have h6 : len.getLsbD 6 = false := by simpa using h6
      split
      · rename_i hm
        simp only [encode, setWidth_six h7 h6]
        rw [setWidth_seven_bit7 (by rw [← msb_eq_bit7]; exact hm)]
      · rename_i hm
        simp only [encode, setWidth_six h7 h6]
        rw [setWidth_seven (by rw [← msb_eq_bit7]; simpa using hm)]

theorem decodeOpWord_bytes {w : Byte} {i : Instr} (h : decodeOpWord w = .ok i) : encode i = [w] := by
  unfold decodeOpWord at h
  repeat' split at h
  all_goals first
    | (cases h; subst_vars; rfl)
    | cases h

/-- The bytes of the instruction that a port reads are the bytes it was read from. -/
theorem encode_of_decode {p : Port} {bytes : List Byte} {i : Instr} (h : decode p bytes = .ok i) : encode i = bytes := by
  unfold decode at h
  split at h
  · exact decodeOpWord_bytes h
  · cases h
  · split at h
    · simpa using decodeTransmit_bytes h
    · cases h
  · split at h
    · cases h
      exact decodeReceive_bytes _ _ _ _
    · cases h
  · cases h

theorem commandRow_port {type len cmd : Byte} {body : FrameBody} {i : Instr}
    (h : commandRow type len cmd body = some i) : i.port = .transmit := by
  unfold commandRow at h
  repeat' split at h
  all_goals first
    | (cases h; rfl)
    | exact absurd h (by simp)

theorem decodeTransmit_port {type len cmd : Byte} {body : FrameBody} {i : Instr}
    (h : decodeTransmit type len cmd body = .ok i) : i.port = .transmit := by
  unfold decodeTransmit at h
  split at h
  · cases h
    exact commandRow_port (by assumption)
  · split at h
    · cases h
    · split at h
      · cases h
        rfl
      · cases h

theorem decodeReceive_port (type len cmd : Byte) (body : FrameBody) :
    (decodeReceive type len cmd body).port = .receive := by
  unfold decodeReceive
  repeat' split
  all_goals rfl

theorem decodeOpWord_port {w : Byte} {i : Instr} (h : decodeOpWord w = .ok i) : i.port = .ctrl := by
  unfold decodeOpWord at h
  repeat' split at h
  all_goals first
    | (cases h; rfl)
    | cases h

/-- An instruction that a port reads belongs to that port. -/
theorem port_of_decode {p : Port} {bytes : List Byte} {i : Instr} (h : decode p bytes = .ok i) : i.port = p := by
  unfold decode at h
  split at h
  · exact decodeOpWord_port h
  · cases h
  · split at h
    · exact decodeTransmit_port h
    · cases h
  · split at h
    · cases h
      exact decodeReceive_port _ _ _ _
    · cases h
  · cases h

end Sys2Proof
end

