-- ==== Sys2Proof/Laws/HostSequences.lean ====
section
/-! SUPPORT. What each small function of the host sequences can do, and that an ended sequence stays ended. -/

namespace Sys2Proof.Machine

theorem chunkSizes_of_pos {total : Nat} (h : 0 < total) (chunk : Nat) :
    chunkSizes total chunk =
      List.replicate (total / chunk) chunk ++ (if total % chunk = 0 then [] else [total % chunk]) :=
  if_neg (by omega)

/-- A transfer of at least one byte has at least one chunk. -/
theorem chunkSizes_ne_nil {total chunk : Nat} (h : 0 < total) : chunkSizes total chunk ≠ [] := by
  rw [chunkSizes_of_pos h]
  intro hn
  obtain ⟨hq, hm⟩ := List.append_eq_nil_iff.mp hn
  have h0 : total / chunk = 0 := by simpa using hq
  have h1 : total % chunk = 0 := by
    by_contra hne
    rw [if_neg hne] at hm
    cases hm
  have := Nat.mod_add_div total chunk
  rw [h0, h1] at this
  omega

theorem streamRead_of_pos {total : Nat} (h : 0 < total) (positionOf : Nat → List Byte) (start chunk : Nat) :
    streamRead positionOf total start chunk =
      ⟨⟨0xa0, 0x00, positionOf start⟩, none⟩ :: (chunkSizes total chunk).map lengthOnlyRead := by
  unfold streamRead
  split
  · exact absurd ‹_› (chunkSizes_ne_nil h)
  · rename_i hc
    rw [hc]

theorem inlineRead_ne_nil {total : Nat} (h : 0 < total) (type cmd : Byte) (start chunk : Nat) :
    inlineRead type cmd total start chunk ≠ [] := by
  intro hn
  exact chunkSizes_ne_nil (chunk := chunk) h (by simpa [inlineRead, chunkSpans] using hn)

/-- A read of at least one byte that is not refused issues a request. -/
theorem readBlock_ne_nil {type cmd : Byte} {total start : Nat} {chunk : Option Nat} {mode : AddressingMode}
    {items : List ReadItem} (h : 0 < total) (hb : readBlock type cmd total start chunk mode = some items) : items ≠ [] := by
  unfold readBlock at hb
  simp only at hb
  split at hb
  · split at hb
    · exact Option.some.inj hb ▸ inlineRead_ne_nil h _ _ _ _
    · split at hb
      · rw [← Option.some.inj hb]
        exact streamRead_of_pos h _ _ _ ▸ List.cons_ne_nil _ _
      · cases hb
  · cases hb

theorem continueRead_cons (total : Nat) (got : List Byte) (item : ReadItem) (todo : List ReadItem) :
    continueRead total got (item :: todo) = .running got (item :: todo) := rfl

theorem continueRead_nil {total : Nat} {got : List Byte} (h : got.length = total) : continueRead total got [] = .done got :=
  if_pos (.inl h)

theorem startRead_of_ne_nil {total : Nat} {items : List ReadItem} (h : items ≠ []) :
    startRead total items = .running [] items := by
  cases items with
  | nil => exact absurd rfl h
  | cons item todo => rfl

/-- An acknowledge of the size asked for is accepted under every policy. -/
theorem readAfter_ack {total n : Nat} {got payload : List Byte} {request : Request} {todo : List ReadItem}
    (h : payload.length = n) :
    readAfter total (.running got (⟨request, some n⟩ :: todo)) (.ack payload) = continueRead total (got ++ payload) todo :=
  if_pos (by simp [ReadItem.accepts, h])

/-- The acknowledge of the positioning request adds no data (R234). -/
theorem readAfter_position (total : Nat) (got payload : List Byte) (request : Request) (todo : List ReadItem) :
    readAfter total (.running got (⟨request, none⟩ :: todo)) (.ack payload) = continueRead total got todo := by
  simp [readAfter, ReadItem.accepts, ReadItem.dataOf]

/-- A result other than an acknowledge ends a read (R238). -/
theorem readAfter_failure {r : TxResult} (h : r.isAck = false) (total : Nat) (got : List Byte) (todo : List ReadItem) :
    readAfter total (.running got todo) r = .aborted (some r) := by
  cases todo <;> cases r <;> first
    | rfl
    | cases h

theorem foldl_readAfter_aborted (total : Nat) (first : Option TxResult) (rs : List TxResult) :
    rs.foldl (readAfter total) (.aborted first) = .aborted first := by
  induction rs with
  | nil => rfl
  | cons r rs ih => exact ih

theorem foldl_writeAfter_aborted (first : TxResult) (rs : List TxResult) :
    rs.foldl writeAfter (.aborted first) = .aborted first := by
  induction rs with
  | nil => rfl
  | cons r rs ih => exact ih

theorem foldl_writeAfter_busyTimeout (rs : List TxResult) : rs.foldl writeAfter .busyTimeout = .busyTimeout := by
  induction rs with
  | nil => rfl
  | cons r rs ih => exact ih

/-- What a failed poll can do: one more of the ten, or the end of the write (R246, R247). -/
theorem pollFailed_cases (failed : List TxResult) (r : TxResult) (todo : List Request) :
    (failed.length + 1 < 10 ∧ pollFailed failed r todo = .polling (failed ++ [r]) todo) ∨
    (10 ≤ failed.length + 1 ∧ pollFailed failed r todo = .busyTimeout) ∨
    (10 ≤ failed.length + 1 ∧ (failed ++ [r]).all TxResult.isNack = false ∧
      pollFailed failed r todo = .aborted (failed.headD r)) := by
  unfold pollFailed
  simp only [Config.maxPolls]
  split
  · exact .inl ⟨by assumption, rfl⟩
  · split
    · exact .inr (.inl ⟨by omega, rfl⟩)
    · rename_i h
      simp only [Bool.or_eq_true, not_or, Bool.not_eq_true] at h
      exact .inr (.inr ⟨by omega, h.1, rfl⟩)

/-- Ten nacks end the write with `WriteBusyTimeout`, under every policy (R247). -/
theorem pollFailed_of_nacks {failed : List TxResult} {r : TxResult} (h : 10 ≤ failed.length + 1)
    (hn : (failed ++ [r]).all TxResult.isNack = true) (todo : List Request) : pollFailed failed r todo = .busyTimeout := by
  unfold pollFailed
  rw [if_neg (by simp only [Config.maxPolls]; omega), if_pos (by rw [hn]; rfl)]

theorem exactBlock_eq_none {size : Nat} {block : List Byte} (h : block.length ≠ size) : exactBlock size block = none :=
  dif_neg h

theorem exactBlock_eq_some {size : Nat} {block : List Byte} (h : block.length = size) :
    ∃ b, exactBlock size block = some b ∧ b.toList = block :=
  ⟨⟨block.toArray, h⟩, dif_pos h, rfl⟩

/-- What an acknowledged switch can lead to: the bulk read's first request, or the restore where `readBlock` refuses the read. -/
theorem afterSwitch_of_some {plan : EdidPlan} {items : List ReadItem} (h : plan.bulk = some items) (v : Byte) :
    afterSwitch plan v = .reading v (.running [] items) := by
  unfold afterSwitch
  rw [h]
  show afterRead v (startRead 256 items) = _
  rw [startRead_of_ne_nil (readBlock_ne_nil (by decide) h)]
  rfl

theorem afterSwitch_of_none {plan : EdidPlan} (h : plan.bulk = none) (v : Byte) : afterSwitch plan v = .restoring v none := by
  unfold afterSwitch
  rw [h]

/-- The two outputs take the two values of a pair (R225). -/
theorem takesFirst_two (p : PairedCommand) : Output.two.takesFirst p = !Output.one.takesFirst p := rfl

end Sys2Proof.Machine
end

