-- ==== Sys2Proof/Laws/State.lean ====
section
/-! SUPPORT. One lemma per field per update, each true by unfolding, so that no proof about the machine unfolds a record update.
The updates are the unconditional operations of Machine/Ops.lean and Machine/Flags.lean; `hardReset` has one lemma for the engine's
fields together. -/

namespace Sys2Proof.Machine

variable (s : State)

-- State.raise
@[simp] theorem State.raise_reqType (r : Result) (c : Cause) : (s.raise r c).reqType = s.reqType := rfl
@[simp] theorem State.raise_reqCmd (r : Result) (c : Cause) : (s.raise r c).reqCmd = s.reqCmd := rfl
@[simp] theorem State.raise_reqPlen (r : Result) (c : Cause) : (s.raise r c).reqPlen = s.reqPlen := rfl
@[simp] theorem State.raise_reqPayload (r : Result) (c : Cause) : (s.raise r c).reqPayload = s.reqPayload := rfl
@[simp] theorem State.raise_timeoutMs (r : Result) (c : Cause) : (s.raise r c).timeoutMs = s.timeoutMs := rfl
@[simp] theorem State.raise_rspType (r : Result) (c : Cause) : (s.raise r c).rspType = s.rspType := rfl
@[simp] theorem State.raise_rspCmd (r : Result) (c : Cause) : (s.raise r c).rspCmd = s.rspCmd := rfl
@[simp] theorem State.raise_rspAck (r : Result) (c : Cause) : (s.raise r c).rspAck = s.rspAck := rfl
@[simp] theorem State.raise_rspPlen (r : Result) (c : Cause) : (s.raise r c).rspPlen = s.rspPlen := rfl
@[simp] theorem State.raise_rspPayload (r : Result) (c : Cause) : (s.raise r c).rspPayload = s.rspPayload := rfl
@[simp] theorem State.raise_result (r : Result) (c : Cause) : (s.raise r c).result = r := rfl
@[simp] theorem State.raise_cause (r : Result) (c : Cause) : (s.raise r c).cause = c := rfl
@[simp] theorem State.raise_done (r : Result) (c : Cause) : (s.raise r c).done = true := rfl
@[simp] theorem State.raise_chkerr (r : Result) (c : Cause) : (s.raise r c).chkerr = s.chkerr := rfl
@[simp] theorem State.raise_ovr (r : Result) (c : Cause) : (s.raise r c).ovr = s.ovr := rfl
@[simp] theorem State.raise_txbuf (r : Result) (c : Cause) : (s.raise r c).txbuf = s.txbuf := rfl
@[simp] theorem State.raise_rxbuf (r : Result) (c : Cause) : (s.raise r c).rxbuf = s.rxbuf := rfl
@[simp] theorem State.raise_rxCount (r : Result) (c : Cause) : (s.raise r c).rxCount = s.rxCount := rfl
@[simp] theorem State.raise_phase (r : Result) (c : Cause) : (s.raise r c).phase = s.phase := rfl
@[simp] theorem State.raise_timer (r : Result) (c : Cause) : (s.raise r c).timer = s.timer := rfl
@[simp] theorem State.raise_txlog (r : Result) (c : Cause) : (s.raise r c).txlog = s.txlog := rfl
@[simp] theorem State.raise_rxq (r : Result) (c : Cause) : (s.raise r c).rxq = s.rxq := rfl
@[simp] theorem State.raise_hostData (r : Result) (c : Cause) : (s.raise r c).hostData = s.hostData := rfl
@[simp] theorem State.raise_inputs (r : Result) (c : Cause) : (s.raise r c).inputs = s.inputs := rfl

-- State.finish
@[simp] theorem State.finish_reqType (r : Result) (c : Cause) : (s.finish r c).reqType = s.reqType := rfl
@[simp] theorem State.finish_reqCmd (r : Result) (c : Cause) : (s.finish r c).reqCmd = s.reqCmd := rfl
@[simp] theorem State.finish_reqPlen (r : Result) (c : Cause) : (s.finish r c).reqPlen = s.reqPlen := rfl
@[simp] theorem State.finish_reqPayload (r : Result) (c : Cause) : (s.finish r c).reqPayload = s.reqPayload := rfl
@[simp] theorem State.finish_timeoutMs (r : Result) (c : Cause) : (s.finish r c).timeoutMs = s.timeoutMs := rfl
@[simp] theorem State.finish_rspType (r : Result) (c : Cause) : (s.finish r c).rspType = s.rspType := rfl
@[simp] theorem State.finish_rspCmd (r : Result) (c : Cause) : (s.finish r c).rspCmd = s.rspCmd := rfl
@[simp] theorem State.finish_rspAck (r : Result) (c : Cause) : (s.finish r c).rspAck = s.rspAck := rfl
@[simp] theorem State.finish_rspPlen (r : Result) (c : Cause) : (s.finish r c).rspPlen = s.rspPlen := rfl
@[simp] theorem State.finish_rspPayload (r : Result) (c : Cause) : (s.finish r c).rspPayload = s.rspPayload := rfl
@[simp] theorem State.finish_result (r : Result) (c : Cause) : (s.finish r c).result = r := rfl
@[simp] theorem State.finish_cause (r : Result) (c : Cause) : (s.finish r c).cause = c := rfl
@[simp] theorem State.finish_done (r : Result) (c : Cause) : (s.finish r c).done = true := rfl
@[simp] theorem State.finish_chkerr (r : Result) (c : Cause) : (s.finish r c).chkerr = s.chkerr := rfl
@[simp] theorem State.finish_ovr (r : Result) (c : Cause) : (s.finish r c).ovr = s.ovr := rfl
@[simp] theorem State.finish_txbuf (r : Result) (c : Cause) : (s.finish r c).txbuf = s.txbuf := rfl
@[simp] theorem State.finish_rxbuf (r : Result) (c : Cause) : (s.finish r c).rxbuf = s.rxbuf := rfl
@[simp] theorem State.finish_rxCount (r : Result) (c : Cause) : (s.finish r c).rxCount = s.rxCount := rfl
@[simp] theorem State.finish_phase (r : Result) (c : Cause) : (s.finish r c).phase = .idle := rfl
@[simp] theorem State.finish_timer (r : Result) (c : Cause) : (s.finish r c).timer = s.timer := rfl
@[simp] theorem State.finish_txlog (r : Result) (c : Cause) : (s.finish r c).txlog = s.txlog := rfl
@[simp] theorem State.finish_rxq (r : Result) (c : Cause) : (s.finish r c).rxq = s.rxq := rfl
@[simp] theorem State.finish_hostData (r : Result) (c : Cause) : (s.finish r c).hostData = s.hostData := rfl
@[simp] theorem State.finish_inputs (r : Result) (c : Cause) : (s.finish r c).inputs = s.inputs := rfl

-- State.refuseBusy
@[simp] theorem State.refuseBusy_reqType : (s.refuseBusy).reqType = s.reqType := rfl
@[simp] theorem State.refuseBusy_reqCmd : (s.refuseBusy).reqCmd = s.reqCmd := rfl
@[simp] theorem State.refuseBusy_reqPlen : (s.refuseBusy).reqPlen = s.reqPlen := rfl
@[simp] theorem State.refuseBusy_reqPayload : (s.refuseBusy).reqPayload = s.reqPayload := rfl
@[simp] theorem State.refuseBusy_timeoutMs : (s.refuseBusy).timeoutMs = s.timeoutMs := rfl
@[simp] theorem State.refuseBusy_rspType : (s.refuseBusy).rspType = s.rspType := rfl
@[simp] theorem State.refuseBusy_rspCmd : (s.refuseBusy).rspCmd = s.rspCmd := rfl
@[simp] theorem State.refuseBusy_rspAck : (s.refuseBusy).rspAck = s.rspAck := rfl
@[simp] theorem State.refuseBusy_rspPlen : (s.refuseBusy).rspPlen = s.rspPlen := rfl
@[simp] theorem State.refuseBusy_rspPayload : (s.refuseBusy).rspPayload = s.rspPayload := rfl
@[simp] theorem State.refuseBusy_result : (s.refuseBusy).result = s.result := rfl
@[simp] theorem State.refuseBusy_cause : (s.refuseBusy).cause = s.cause := rfl
@[simp] theorem State.refuseBusy_done : (s.refuseBusy).done = s.done := rfl
@[simp] theorem State.refuseBusy_chkerr : (s.refuseBusy).chkerr = s.chkerr := rfl
@[simp] theorem State.refuseBusy_ovr : (s.refuseBusy).ovr = true := rfl
@[simp] theorem State.refuseBusy_txbuf : (s.refuseBusy).txbuf = s.txbuf := rfl
@[simp] theorem State.refuseBusy_rxbuf : (s.refuseBusy).rxbuf = s.rxbuf := rfl
@[simp] theorem State.refuseBusy_rxCount : (s.refuseBusy).rxCount = s.rxCount := rfl
@[simp] theorem State.refuseBusy_phase : (s.refuseBusy).phase = s.phase := rfl
@[simp] theorem State.refuseBusy_timer : (s.refuseBusy).timer = s.timer := rfl
@[simp] theorem State.refuseBusy_txlog : (s.refuseBusy).txlog = s.txlog := rfl
@[simp] theorem State.refuseBusy_rxq : (s.refuseBusy).rxq = s.rxq := rfl
@[simp] theorem State.refuseBusy_hostData : (s.refuseBusy).hostData = s.hostData := rfl
@[simp] theorem State.refuseBusy_inputs : (s.refuseBusy).inputs = s.inputs := rfl

-- State.clearResponse
@[simp] theorem State.clearResponse_reqType : (s.clearResponse).reqType = s.reqType := rfl
@[simp] theorem State.clearResponse_reqCmd : (s.clearResponse).reqCmd = s.reqCmd := rfl
@[simp] theorem State.clearResponse_reqPlen : (s.clearResponse).reqPlen = s.reqPlen := rfl
@[simp] theorem State.clearResponse_reqPayload : (s.clearResponse).reqPayload = s.reqPayload := rfl
@[simp] theorem State.clearResponse_timeoutMs : (s.clearResponse).timeoutMs = s.timeoutMs := rfl
@[simp] theorem State.clearResponse_rspType : (s.clearResponse).rspType = 0 := rfl
@[simp] theorem State.clearResponse_rspCmd : (s.clearResponse).rspCmd = 0 := rfl
@[simp] theorem State.clearResponse_rspAck : (s.clearResponse).rspAck = false := rfl
@[simp] theorem State.clearResponse_rspPlen : (s.clearResponse).rspPlen = 0 := rfl
@[simp] theorem State.clearResponse_rspPayload : (s.clearResponse).rspPayload = Vector.replicate 61 0 := rfl
@[simp] theorem State.clearResponse_result : (s.clearResponse).result = s.result := rfl
@[simp] theorem State.clearResponse_cause : (s.clearResponse).cause = s.cause := rfl
@[simp] theorem State.clearResponse_done : (s.clearResponse).done = s.done := rfl
@[simp] theorem State.clearResponse_chkerr : (s.clearResponse).chkerr = s.chkerr := rfl
@[simp] theorem State.clearResponse_ovr : (s.clearResponse).ovr = s.ovr := rfl
@[simp] theorem State.clearResponse_txbuf : (s.clearResponse).txbuf = s.txbuf := rfl
@[simp] theorem State.clearResponse_rxbuf : (s.clearResponse).rxbuf = s.rxbuf := rfl
@[simp] theorem State.clearResponse_rxCount : (s.clearResponse).rxCount = s.rxCount := rfl
@[simp] theorem State.clearResponse_phase : (s.clearResponse).phase = s.phase := rfl
@[simp] theorem State.clearResponse_timer : (s.clearResponse).timer = s.timer := rfl
@[simp] theorem State.clearResponse_txlog : (s.clearResponse).txlog = s.txlog := rfl
@[simp] theorem State.clearResponse_rxq : (s.clearResponse).rxq = s.rxq := rfl
@[simp] theorem State.clearResponse_hostData : (s.clearResponse).hostData = s.hostData := rfl
@[simp] theorem State.clearResponse_inputs : (s.clearResponse).inputs = s.inputs := rfl

-- State.writeResponse
@[simp] theorem State.writeResponse_reqType (p : Packet) : (s.writeResponse p).reqType = s.reqType := rfl
@[simp] theorem State.writeResponse_reqCmd (p : Packet) : (s.writeResponse p).reqCmd = s.reqCmd := rfl
@[simp] theorem State.writeResponse_reqPlen (p : Packet) : (s.writeResponse p).reqPlen = s.reqPlen := rfl
@[simp] theorem State.writeResponse_reqPayload (p : Packet) : (s.writeResponse p).reqPayload = s.reqPayload := rfl
@[simp] theorem State.writeResponse_timeoutMs (p : Packet) : (s.writeResponse p).timeoutMs = s.timeoutMs := rfl
@[simp] theorem State.writeResponse_rspType (p : Packet) : (s.writeResponse p).rspType = p.type := rfl
@[simp] theorem State.writeResponse_rspCmd (p : Packet) : (s.writeResponse p).rspCmd = p.command := rfl
@[simp] theorem State.writeResponse_rspAck (p : Packet) : (s.writeResponse p).rspAck = p.ack := rfl
@[simp] theorem State.writeResponse_rspPlen (p : Packet) : (s.writeResponse p).rspPlen = BitVec.ofNat 8 p.payload.length := rfl
@[simp] theorem State.writeResponse_rspPayload (p : Packet) : (s.writeResponse p).rspPayload = fit 61 p.payload := rfl
@[simp] theorem State.writeResponse_result (p : Packet) : (s.writeResponse p).result = s.result := rfl
@[simp] theorem State.writeResponse_cause (p : Packet) : (s.writeResponse p).cause = s.cause := rfl
@[simp] theorem State.writeResponse_done (p : Packet) : (s.writeResponse p).done = s.done := rfl
@[simp] theorem State.writeResponse_chkerr (p : Packet) : (s.writeResponse p).chkerr = s.chkerr := rfl
@[simp] theorem State.writeResponse_ovr (p : Packet) : (s.writeResponse p).ovr = s.ovr := rfl
@[simp] theorem State.writeResponse_txbuf (p : Packet) : (s.writeResponse p).txbuf = s.txbuf := rfl
@[simp] theorem State.writeResponse_rxbuf (p : Packet) : (s.writeResponse p).rxbuf = s.rxbuf := rfl
@[simp] theorem State.writeResponse_rxCount (p : Packet) : (s.writeResponse p).rxCount = s.rxCount := rfl
@[simp] theorem State.writeResponse_phase (p : Packet) : (s.writeResponse p).phase = s.phase := rfl
@[simp] theorem State.writeResponse_timer (p : Packet) : (s.writeResponse p).timer = s.timer := rfl
@[simp] theorem State.writeResponse_txlog (p : Packet) : (s.writeResponse p).txlog = s.txlog := rfl
@[simp] theorem State.writeResponse_rxq (p : Packet) : (s.writeResponse p).rxq = s.rxq := rfl
@[simp] theorem State.writeResponse_hostData (p : Packet) : (s.writeResponse p).hostData = s.hostData := rfl
@[simp] theorem State.writeResponse_inputs (p : Packet) : (s.writeResponse p).inputs = s.inputs := rfl

-- State.loadDelivery
@[simp] theorem State.loadDelivery_reqType (d : Delivery) : (s.loadDelivery d).reqType = s.reqType := rfl
@[simp] theorem State.loadDelivery_reqCmd (d : Delivery) : (s.loadDelivery d).reqCmd = s.reqCmd := rfl
@[simp] theorem State.loadDelivery_reqPlen (d : Delivery) : (s.loadDelivery d).reqPlen = s.reqPlen := rfl
@[simp] theorem State.loadDelivery_reqPayload (d : Delivery) : (s.loadDelivery d).reqPayload = s.reqPayload := rfl
@[simp] theorem State.loadDelivery_timeoutMs (d : Delivery) : (s.loadDelivery d).timeoutMs = s.timeoutMs := rfl
@[simp] theorem State.loadDelivery_rspType (d : Delivery) : (s.loadDelivery d).rspType = s.rspType := rfl
@[simp] theorem State.loadDelivery_rspCmd (d : Delivery) : (s.loadDelivery d).rspCmd = s.rspCmd := rfl
@[simp] theorem State.loadDelivery_rspAck (d : Delivery) : (s.loadDelivery d).rspAck = s.rspAck := rfl
@[simp] theorem State.loadDelivery_rspPlen (d : Delivery) : (s.loadDelivery d).rspPlen = s.rspPlen := rfl
@[simp] theorem State.loadDelivery_rspPayload (d : Delivery) : (s.loadDelivery d).rspPayload = s.rspPayload := rfl
@[simp] theorem State.loadDelivery_result (d : Delivery) : (s.loadDelivery d).result = s.result := rfl
@[simp] theorem State.loadDelivery_cause (d : Delivery) : (s.loadDelivery d).cause = s.cause := rfl
@[simp] theorem State.loadDelivery_done (d : Delivery) : (s.loadDelivery d).done = s.done := rfl
@[simp] theorem State.loadDelivery_chkerr (d : Delivery) : (s.loadDelivery d).chkerr = s.chkerr := rfl
@[simp] theorem State.loadDelivery_ovr (d : Delivery) : (s.loadDelivery d).ovr = s.ovr := rfl
@[simp] theorem State.loadDelivery_txbuf (d : Delivery) : (s.loadDelivery d).txbuf = s.txbuf := rfl
@[simp] theorem State.loadDelivery_rxbuf (d : Delivery) : (s.loadDelivery d).rxbuf = fit 64 d := rfl
@[simp] theorem State.loadDelivery_rxCount (d : Delivery) : (s.loadDelivery d).rxCount = BitVec.ofNat 8 (min d.length 255) := rfl
@[simp] theorem State.loadDelivery_phase (d : Delivery) : (s.loadDelivery d).phase = s.phase := rfl
@[simp] theorem State.loadDelivery_timer (d : Delivery) : (s.loadDelivery d).timer = s.timer := rfl
@[simp] theorem State.loadDelivery_txlog (d : Delivery) : (s.loadDelivery d).txlog = s.txlog := rfl
@[simp] theorem State.loadDelivery_rxq (d : Delivery) : (s.loadDelivery d).rxq = s.rxq := rfl
@[simp] theorem State.loadDelivery_hostData (d : Delivery) : (s.loadDelivery d).hostData = s.hostData := rfl
@[simp] theorem State.loadDelivery_inputs (d : Delivery) : (s.loadDelivery d).inputs = s.inputs := rfl

-- State.clearDelivery
@[simp] theorem State.clearDelivery_reqType : (s.clearDelivery).reqType = s.reqType := rfl
@[simp] theorem State.clearDelivery_reqCmd : (s.clearDelivery).reqCmd = s.reqCmd := rfl
@[simp] theorem State.clearDelivery_reqPlen : (s.clearDelivery).reqPlen = s.reqPlen := rfl
@[simp] theorem State.clearDelivery_reqPayload : (s.clearDelivery).reqPayload = s.reqPayload := rfl
@[simp] theorem State.clearDelivery_timeoutMs : (s.clearDelivery).timeoutMs = s.timeoutMs := rfl
@[simp] theorem State.clearDelivery_rspType : (s.clearDelivery).rspType = s.rspType := rfl
@[simp] theorem State.clearDelivery_rspCmd : (s.clearDelivery).rspCmd = s.rspCmd := rfl
@[simp] theorem State.clearDelivery_rspAck : (s.clearDelivery).rspAck = s.rspAck := rfl
@[simp] theorem State.clearDelivery_rspPlen : (s.clearDelivery).rspPlen = s.rspPlen := rfl
@[simp] theorem State.clearDelivery_rspPayload : (s.clearDelivery).rspPayload = s.rspPayload := rfl
@[simp] theorem State.clearDelivery_result : (s.clearDelivery).result = s.result := rfl
@[simp] theorem State.clearDelivery_cause : (s.clearDelivery).cause = s.cause := rfl
@[simp] theorem State.clearDelivery_done : (s.clearDelivery).done = s.done := rfl
@[simp] theorem State.clearDelivery_chkerr : (s.clearDelivery).chkerr = s.chkerr := rfl
@[simp] theorem State.clearDelivery_ovr : (s.clearDelivery).ovr = s.ovr := rfl
@[simp] theorem State.clearDelivery_txbuf : (s.clearDelivery).txbuf = s.txbuf := rfl
@[simp] theorem State.clearDelivery_rxbuf : (s.clearDelivery).rxbuf = Vector.replicate 64 0 := rfl
@[simp] theorem State.clearDelivery_rxCount : (s.clearDelivery).rxCount = 0 := rfl
@[simp] theorem State.clearDelivery_phase : (s.clearDelivery).phase = s.phase := rfl
@[simp] theorem State.clearDelivery_timer : (s.clearDelivery).timer = s.timer := rfl
@[simp] theorem State.clearDelivery_txlog : (s.clearDelivery).txlog = s.txlog := rfl
@[simp] theorem State.clearDelivery_rxq : (s.clearDelivery).rxq = s.rxq := rfl
@[simp] theorem State.clearDelivery_hostData : (s.clearDelivery).hostData = s.hostData := rfl
@[simp] theorem State.clearDelivery_inputs : (s.clearDelivery).inputs = s.inputs := rfl

-- State.loadRequestFrame
@[simp] theorem State.loadRequestFrame_reqType : (s.loadRequestFrame).reqType = s.reqType := rfl
@[simp] theorem State.loadRequestFrame_reqCmd : (s.loadRequestFrame).reqCmd = s.reqCmd := rfl
@[simp] theorem State.loadRequestFrame_reqPlen : (s.loadRequestFrame).reqPlen = s.reqPlen := rfl
@[simp] theorem State.loadRequestFrame_reqPayload : (s.loadRequestFrame).reqPayload = s.reqPayload := rfl
@[simp] theorem State.loadRequestFrame_timeoutMs : (s.loadRequestFrame).timeoutMs = s.timeoutMs := rfl
@[simp] theorem State.loadRequestFrame_rspType : (s.loadRequestFrame).rspType = s.rspType := rfl
@[simp] theorem State.loadRequestFrame_rspCmd : (s.loadRequestFrame).rspCmd = s.rspCmd := rfl
@[simp] theorem State.loadRequestFrame_rspAck : (s.loadRequestFrame).rspAck = s.rspAck := rfl
@[simp] theorem State.loadRequestFrame_rspPlen : (s.loadRequestFrame).rspPlen = s.rspPlen := rfl
@[simp] theorem State.loadRequestFrame_rspPayload : (s.loadRequestFrame).rspPayload = s.rspPayload := rfl
@[simp] theorem State.loadRequestFrame_result : (s.loadRequestFrame).result = s.result := rfl
@[simp] theorem State.loadRequestFrame_cause : (s.loadRequestFrame).cause = s.cause := rfl
@[simp] theorem State.loadRequestFrame_done : (s.loadRequestFrame).done = s.done := rfl
@[simp] theorem State.loadRequestFrame_chkerr : (s.loadRequestFrame).chkerr = s.chkerr := rfl
@[simp] theorem State.loadRequestFrame_ovr : (s.loadRequestFrame).ovr = s.ovr := rfl
@[simp] theorem State.loadRequestFrame_txbuf : (s.loadRequestFrame).txbuf = s.requestFrame := rfl
@[simp] theorem State.loadRequestFrame_rxbuf : (s.loadRequestFrame).rxbuf = s.rxbuf := rfl
@[simp] theorem State.loadRequestFrame_rxCount : (s.loadRequestFrame).rxCount = s.rxCount := rfl
@[simp] theorem State.loadRequestFrame_phase : (s.loadRequestFrame).phase = s.phase := rfl
@[simp] theorem State.loadRequestFrame_timer : (s.loadRequestFrame).timer = s.timer := rfl
@[simp] theorem State.loadRequestFrame_txlog : (s.loadRequestFrame).txlog = s.txlog := rfl
@[simp] theorem State.loadRequestFrame_rxq : (s.loadRequestFrame).rxq = s.rxq := rfl
@[simp] theorem State.loadRequestFrame_hostData : (s.loadRequestFrame).hostData = s.hostData := rfl
@[simp] theorem State.loadRequestFrame_inputs : (s.loadRequestFrame).inputs = s.inputs := rfl

-- State.startTransaction
@[simp] theorem State.startTransaction_reqType : (s.startTransaction).reqType = s.reqType := rfl
@[simp] theorem State.startTransaction_reqCmd : (s.startTransaction).reqCmd = s.reqCmd := rfl
@[simp] theorem State.startTransaction_reqPlen : (s.startTransaction).reqPlen = s.reqPlen := rfl
@[simp] theorem State.startTransaction_reqPayload : (s.startTransaction).reqPayload = s.reqPayload := rfl
@[simp] theorem State.startTransaction_timeoutMs : (s.startTransaction).timeoutMs = s.timeoutMs := rfl
@[simp] theorem State.startTransaction_rspType : (s.startTransaction).rspType = 0 := rfl
@[simp] theorem State.startTransaction_rspCmd : (s.startTransaction).rspCmd = 0 := rfl
@[simp] theorem State.startTransaction_rspAck : (s.startTransaction).rspAck = false := rfl
@[simp] theorem State.startTransaction_rspPlen : (s.startTransaction).rspPlen = 0 := rfl
@[simp] theorem State.startTransaction_rspPayload : (s.startTransaction).rspPayload = Vector.replicate 61 0 := rfl
@[simp] theorem State.startTransaction_result : (s.startTransaction).result = .none := rfl
@[simp] theorem State.startTransaction_cause : (s.startTransaction).cause = .none := rfl
@[simp] theorem State.startTransaction_done : (s.startTransaction).done = false := rfl
@[simp] theorem State.startTransaction_chkerr : (s.startTransaction).chkerr = s.chkerr := rfl
@[simp] theorem State.startTransaction_ovr : (s.startTransaction).ovr = s.ovr := rfl
@[simp] theorem State.startTransaction_txbuf : (s.startTransaction).txbuf = s.requestFrame := rfl
@[simp] theorem State.startTransaction_rxbuf : (s.startTransaction).rxbuf = Vector.replicate 64 0 := rfl
@[simp] theorem State.startTransaction_rxCount : (s.startTransaction).rxCount = 0 := rfl
@[simp] theorem State.startTransaction_phase : (s.startTransaction).phase = .send := rfl
@[simp] theorem State.startTransaction_timer : (s.startTransaction).timer = s.timer := rfl
@[simp] theorem State.startTransaction_txlog : (s.startTransaction).txlog = s.txlog := rfl
@[simp] theorem State.startTransaction_rxq : (s.startTransaction).rxq = s.rxq := rfl
@[simp] theorem State.startTransaction_hostData : (s.startTransaction).hostData = s.hostData := rfl
@[simp] theorem State.startTransaction_inputs : (s.startTransaction).inputs = s.inputs := rfl

-- State.sendFrame
@[simp] theorem State.sendFrame_reqType (f : Frame) : (s.sendFrame f).reqType = s.reqType := rfl
@[simp] theorem State.sendFrame_reqCmd (f : Frame) : (s.sendFrame f).reqCmd = s.reqCmd := rfl
@[simp] theorem State.sendFrame_reqPlen (f : Frame) : (s.sendFrame f).reqPlen = s.reqPlen := rfl
@[simp] theorem State.sendFrame_reqPayload (f : Frame) : (s.sendFrame f).reqPayload = s.reqPayload := rfl
@[simp] theorem State.sendFrame_timeoutMs (f : Frame) : (s.sendFrame f).timeoutMs = s.timeoutMs := rfl
@[simp] theorem State.sendFrame_rspType (f : Frame) : (s.sendFrame f).rspType = s.rspType := rfl
@[simp] theorem State.sendFrame_rspCmd (f : Frame) : (s.sendFrame f).rspCmd = s.rspCmd := rfl
@[simp] theorem State.sendFrame_rspAck (f : Frame) : (s.sendFrame f).rspAck = s.rspAck := rfl
@[simp] theorem State.sendFrame_rspPlen (f : Frame) : (s.sendFrame f).rspPlen = s.rspPlen := rfl
@[simp] theorem State.sendFrame_rspPayload (f : Frame) : (s.sendFrame f).rspPayload = s.rspPayload := rfl
@[simp] theorem State.sendFrame_result (f : Frame) : (s.sendFrame f).result = s.result := rfl
@[simp] theorem State.sendFrame_cause (f : Frame) : (s.sendFrame f).cause = s.cause := rfl
@[simp] theorem State.sendFrame_done (f : Frame) : (s.sendFrame f).done = s.done := rfl
@[simp] theorem State.sendFrame_chkerr (f : Frame) : (s.sendFrame f).chkerr = s.chkerr := rfl
@[simp] theorem State.sendFrame_ovr (f : Frame) : (s.sendFrame f).ovr = s.ovr := rfl
@[simp] theorem State.sendFrame_txbuf (f : Frame) : (s.sendFrame f).txbuf = s.txbuf := rfl
@[simp] theorem State.sendFrame_rxbuf (f : Frame) : (s.sendFrame f).rxbuf = s.rxbuf := rfl
@[simp] theorem State.sendFrame_rxCount (f : Frame) : (s.sendFrame f).rxCount = s.rxCount := rfl
@[simp] theorem State.sendFrame_phase (f : Frame) : (s.sendFrame f).phase = .wait := rfl
@[simp] theorem State.sendFrame_timer (f : Frame) : (s.sendFrame f).timer = s.timeoutMs := rfl
@[simp] theorem State.sendFrame_txlog (f : Frame) : (s.sendFrame f).txlog = s.txlog ++ [f] := rfl
@[simp] theorem State.sendFrame_rxq (f : Frame) : (s.sendFrame f).rxq = s.rxq := rfl
@[simp] theorem State.sendFrame_hostData (f : Frame) : (s.sendFrame f).hostData = s.hostData := rfl
@[simp] theorem State.sendFrame_inputs (f : Frame) : (s.sendFrame f).inputs = s.inputs := rfl

-- State.deliver
@[simp] theorem State.deliver_reqType (d : Delivery) : (s.deliver d).reqType = s.reqType := rfl
@[simp] theorem State.deliver_reqCmd (d : Delivery) : (s.deliver d).reqCmd = s.reqCmd := rfl
@[simp] theorem State.deliver_reqPlen (d : Delivery) : (s.deliver d).reqPlen = s.reqPlen := rfl
@[simp] theorem State.deliver_reqPayload (d : Delivery) : (s.deliver d).reqPayload = s.reqPayload := rfl
@[simp] theorem State.deliver_timeoutMs (d : Delivery) : (s.deliver d).timeoutMs = s.timeoutMs := rfl
@[simp] theorem State.deliver_rspType (d : Delivery) : (s.deliver d).rspType = s.rspType := rfl
@[simp] theorem State.deliver_rspCmd (d : Delivery) : (s.deliver d).rspCmd = s.rspCmd := rfl
@[simp] theorem State.deliver_rspAck (d : Delivery) : (s.deliver d).rspAck = s.rspAck := rfl
@[simp] theorem State.deliver_rspPlen (d : Delivery) : (s.deliver d).rspPlen = s.rspPlen := rfl
@[simp] theorem State.deliver_rspPayload (d : Delivery) : (s.deliver d).rspPayload = s.rspPayload := rfl
@[simp] theorem State.deliver_result (d : Delivery) : (s.deliver d).result = s.result := rfl
@[simp] theorem State.deliver_cause (d : Delivery) : (s.deliver d).cause = s.cause := rfl
@[simp] theorem State.deliver_done (d : Delivery) : (s.deliver d).done = s.done := rfl
@[simp] theorem State.deliver_chkerr (d : Delivery) : (s.deliver d).chkerr = s.chkerr := rfl
@[simp] theorem State.deliver_ovr (d : Delivery) : (s.deliver d).ovr = s.ovr := rfl
@[simp] theorem State.deliver_txbuf (d : Delivery) : (s.deliver d).txbuf = s.txbuf := rfl
@[simp] theorem State.deliver_rxbuf (d : Delivery) : (s.deliver d).rxbuf = s.rxbuf := rfl
@[simp] theorem State.deliver_rxCount (d : Delivery) : (s.deliver d).rxCount = s.rxCount := rfl
@[simp] theorem State.deliver_phase (d : Delivery) : (s.deliver d).phase = s.phase := rfl
@[simp] theorem State.deliver_timer (d : Delivery) : (s.deliver d).timer = s.timer := rfl
@[simp] theorem State.deliver_txlog (d : Delivery) : (s.deliver d).txlog = s.txlog := rfl
@[simp] theorem State.deliver_rxq (d : Delivery) : (s.deliver d).rxq = s.rxq ++ [d] := rfl
@[simp] theorem State.deliver_hostData (d : Delivery) : (s.deliver d).hostData = s.hostData := rfl
@[simp] theorem State.deliver_inputs (d : Delivery) : (s.deliver d).inputs = s.inputs := rfl

-- State.writeStatus
@[simp] theorem State.writeStatus_reqType (v : Byte) : (s.writeStatus v).reqType = s.reqType := rfl
@[simp] theorem State.writeStatus_reqCmd (v : Byte) : (s.writeStatus v).reqCmd = s.reqCmd := rfl
@[simp] theorem State.writeStatus_reqPlen (v : Byte) : (s.writeStatus v).reqPlen = s.reqPlen := rfl
@[simp] theorem State.writeStatus_reqPayload (v : Byte) : (s.writeStatus v).reqPayload = s.reqPayload := rfl
@[simp] theorem State.writeStatus_timeoutMs (v : Byte) : (s.writeStatus v).timeoutMs = s.timeoutMs := rfl
@[simp] theorem State.writeStatus_rspType (v : Byte) : (s.writeStatus v).rspType = s.rspType := rfl
@[simp] theorem State.writeStatus_rspCmd (v : Byte) : (s.writeStatus v).rspCmd = s.rspCmd := rfl
@[simp] theorem State.writeStatus_rspAck (v : Byte) : (s.writeStatus v).rspAck = s.rspAck := rfl
@[simp] theorem State.writeStatus_rspPlen (v : Byte) : (s.writeStatus v).rspPlen = s.rspPlen := rfl
@[simp] theorem State.writeStatus_rspPayload (v : Byte) : (s.writeStatus v).rspPayload = s.rspPayload := rfl
@[simp] theorem State.writeStatus_result (v : Byte) : (s.writeStatus v).result = s.result := rfl
@[simp] theorem State.writeStatus_cause (v : Byte) : (s.writeStatus v).cause = s.cause := rfl
@[simp] theorem State.writeStatus_done (v : Byte) : (s.writeStatus v).done = (s.done && !v.getLsbD 1) := rfl
@[simp] theorem State.writeStatus_chkerr (v : Byte) : (s.writeStatus v).chkerr = (s.chkerr && !v.getLsbD 2) := rfl
@[simp] theorem State.writeStatus_ovr (v : Byte) : (s.writeStatus v).ovr = (s.ovr && !v.getLsbD 3) := rfl
@[simp] theorem State.writeStatus_txbuf (v : Byte) : (s.writeStatus v).txbuf = s.txbuf := rfl
@[simp] theorem State.writeStatus_rxbuf (v : Byte) : (s.writeStatus v).rxbuf = s.rxbuf := rfl
@[simp] theorem State.writeStatus_rxCount (v : Byte) : (s.writeStatus v).rxCount = s.rxCount := rfl
@[simp] theorem State.writeStatus_phase (v : Byte) : (s.writeStatus v).phase = s.phase := rfl
@[simp] theorem State.writeStatus_timer (v : Byte) : (s.writeStatus v).timer = s.timer := rfl
@[simp] theorem State.writeStatus_txlog (v : Byte) : (s.writeStatus v).txlog = s.txlog := rfl
@[simp] theorem State.writeStatus_rxq (v : Byte) : (s.writeStatus v).rxq = s.rxq := rfl
@[simp] theorem State.writeStatus_hostData (v : Byte) : (s.writeStatus v).hostData = s.hostData := rfl
@[simp] theorem State.writeStatus_inputs (v : Byte) : (s.writeStatus v).inputs = s.inputs := rfl

-- State.hardReset: the engine's fields as State.reset has them, the transport's and the model's own kept (R310, R312)
theorem State.hardReset_eq (taken : Bool) :
    s.hardReset taken =
      { State.reset with
        txlog := if taken && s.txValid then s.txlog ++ [s.txbuf] else s.txlog
        rxq := s.rxq, hostData := s.hostData, inputs := s.inputs } := rfl
@[simp] theorem State.hardReset_phase (taken : Bool) : (s.hardReset taken).phase = .idle := rfl
@[simp] theorem State.hardReset_rxq (taken : Bool) : (s.hardReset taken).rxq = s.rxq := rfl
@[simp] theorem State.hardReset_hostData (taken : Bool) : (s.hardReset taken).hostData = s.hostData := rfl
@[simp] theorem State.hardReset_inputs (taken : Bool) : (s.hardReset taken).inputs = s.inputs := rfl

end Sys2Proof.Machine
end

