-- ==== Sys2Proof/Laws/Ops.lean ====
section
/-! SUPPORT. For each shared operation, one lemma that says everything it can do; later proofs cite it and do not unfold the
operation. -/

namespace Sys2Proof.Machine

theorem State.busy_eq_false (s : State) : s.busy = false ↔ s.phase = .idle := by
  simp [State.busy]

theorem State.busy_eq_true (s : State) : s.busy = true ↔ s.phase ≠ .idle := by
  simp [State.busy]

theorem State.txValid_eq_true (s : State) : s.txValid = true ↔ s.phase = .send := by
  simp [State.txValid]

theorem State.rxReady_eq_true (s : State) : s.rxReady = true ↔ s.phase = .wait := by
  simp [State.rxReady]

theorem State.nothingToTake_eq_true (s : State) : s.nothingToTake = true ↔ s.phase = .wait ∧ s.rxq = [] := by
  simp [State.nothingToTake]

/-- A request is legal, or it is refused with one of two causes (R132, R133, R135). -/
theorem State.requestCause_cases (s : State) :
    (s.requestCause = none ∧ s.reqPlen.toNat ≤ 60 ∧ s.reqCmd.toNat < 0x80) ∨
    (s.requestCause = some .payloadTooLong ∧ 60 < s.reqPlen.toNat) ∨
    (s.requestCause = some .cmdBit7 ∧ s.reqPlen.toNat ≤ 60 ∧ 0x80 ≤ s.reqCmd.toNat) := by
  unfold State.requestCause
  simp only [Config.maxPayload]
  split
  · exact .inr (.inl ⟨rfl, by assumption⟩)
  · split
    · exact .inr (.inr ⟨rfl, by omega, by assumption⟩)
    · exact .inl ⟨rfl, by omega, by omega⟩

theorem State.withCheckedRequest_cases (s accepted : State) :
    (s.requestCause = none ∧ s.withCheckedRequest accepted = accepted) ∨
    (∃ c, s.requestCause = some c ∧ s.withCheckedRequest accepted = s.raise .badRequest c) := by
  unfold State.withCheckedRequest
  split
  · rename_i c h
    exact .inr ⟨c, h, rfl⟩
  · exact .inl ⟨by assumption, rfl⟩

theorem State.reportDecoded_ok (p : Packet) (s : State) :
    s.reportDecoded (.ok p) = (s.writeResponse p).raise p.result .none := rfl

theorem State.reportDecoded_checksumError (s : State) :
    s.reportDecoded .checksumError = State.raise .noPacket .checksum { s with chkerr := true } := rfl

theorem State.reportDecoded_frameLengthError (e : ShapeError) (s : State) :
    s.reportDecoded (.frameLengthError e) = s.raise .frameLengthError e.cause := rfl

theorem State.classify_ok (p : Packet) (s : State) :
    s.classify (.ok p) = (s.writeResponse p).finish p.result .none := rfl

theorem State.classify_checksumError (s : State) :
    s.classify .checksumError = State.finish .noResponse .checksum { s with chkerr := true } := rfl

theorem State.classify_frameLengthError (e : ShapeError) (s : State) :
    s.classify (.frameLengthError e) = s.finish .frameLengthError e.cause := rfl

theorem State.takeDelivery_nil (s : State) :
    s.takeDelivery [] = (s.loadDelivery []).finish .noResponse .emptyDelivery := rfl

theorem State.takeDelivery_of_ne_nil {d : Delivery} (h : d ≠ []) (s : State) :
    s.takeDelivery d = (s.loadDelivery d).classify (packetDecode Config.lenEdgePolicy d) := by
  cases d with
  | nil => exact absurd rfl h
  | cons b bs => rfl

theorem State.transmit_of_send {s : State} (h : s.phase = .send) (f : Frame) : s.transmit f = s.sendFrame f := by
  simp [State.transmit, State.txValid, h]

theorem State.transmit_of_not_send {s : State} (h : s.phase ≠ .send) (f : Frame) : s.transmit f = s := by
  simp [State.transmit, State.txValid, h]

theorem State.receive_of_wait {s : State} (h : s.phase = .wait) (d : Delivery) : s.receive d = s.takeDelivery d := by
  simp [State.receive, State.rxReady, h]

theorem State.receive_of_not_wait {s : State} (h : s.phase ≠ .wait) (d : Delivery) :
    s.receive d = { s with rxq := d :: s.rxq } := by
  simp [State.receive, State.rxReady, h]

theorem State.tick_cases (s : State) :
    (s.phase = .wait ∧ s.timer ≠ 0 ∧ s.tick = { s with timer := s.timer - 1 }) ∨
    (¬(s.phase = .wait ∧ s.timer ≠ 0) ∧ s.tick = s) := by
  unfold State.tick
  split
  · rename_i h
    exact .inl ⟨h.1, h.2, rfl⟩
  · exact .inr ⟨by assumption, rfl⟩

theorem State.expire_cases (s : State) :
    (s.phase = .wait ∧ s.rxq = [] ∧ s.timer = 0 ∧ s.expire = s.finish .noResponse .timeout) ∨
    (¬(s.phase = .wait ∧ s.rxq = [] ∧ s.timer = 0) ∧ s.expire = s) := by
  unfold State.expire
  split
  · rename_i h
    simp [State.nothingToTake] at h
    exact .inl ⟨h.1.1, h.1.2, h.2, rfl⟩
  · rename_i h
    refine .inr ⟨fun ⟨h1, h2, h3⟩ => h ?_, rfl⟩
    simp [State.nothingToTake, h1, h2, h3]

theorem State.expireUntimed_cases (s : State) :
    (s.phase = .wait ∧ s.rxq = [] ∧ s.expireUntimed = s.finish .noResponse .timeout) ∨
    (¬(s.phase = .wait ∧ s.rxq = []) ∧ s.expireUntimed = s) := by
  unfold State.expireUntimed
  split
  · rename_i h
    exact .inl ⟨(s.nothingToTake_eq_true.mp h).1, (s.nothingToTake_eq_true.mp h).2, rfl⟩
  · rename_i h
    exact .inr ⟨fun hs => h (s.nothingToTake_eq_true.mpr hs), rfl⟩

theorem State.badOpWord_cases (s : State) :
    (s.phase = .idle ∧ s.badOpWord = s.raise .badRequest .badOp) ∨
    (s.phase ≠ .idle ∧ s.badOpWord = s.refuseBusy) := by
  unfold State.badOpWord
  split
  · exact .inr ⟨s.busy_eq_true.mp (by assumption), rfl⟩
  · exact .inl ⟨s.busy_eq_false.mp (by simpa using ‹¬s.busy = true›), rfl⟩

/-- What a host write to a location other than `CTRL` does (R36, R62, R72, R73). -/
theorem State.writeLocation_cases (l : Location) (v : Byte) (s : State) :
    (l = .status ∧ s.writeLocation l v = s.writeStatus v) ∨
    (l.idleWritable = true ∧ s.phase ≠ .idle ∧ s.writeLocation l v = s.refuseBusy) ∨
    (l.idleWritable = true ∧ s.phase = .idle ∧ s.writeLocation l v = s.storeLocation l v) ∨
    (l ≠ .status ∧ l.idleWritable = false ∧ s.writeLocation l v = s) := by
  unfold State.writeLocation
  split
  · exact .inl ⟨by assumption, rfl⟩
  · split
    · split
      · exact .inr (.inl ⟨by assumption, s.busy_eq_true.mp (by assumption), rfl⟩)
      · exact .inr (.inr (.inl ⟨by assumption, s.busy_eq_false.mp (by simpa using ‹¬s.busy = true›), rfl⟩))
    · exact .inr (.inr (.inr ⟨by assumption, by simpa using ‹¬l.idleWritable = true›, rfl⟩))

end Sys2Proof.Machine
end

