-- ==== Sys2Proof/Laws/PerInstr.lean ====
section
/-! SUPPORT. A statement about every instruction as syntax, one lemma per constructor: the encoder writes as many bytes as the
instruction's port carries, and the header word of a frame matches its row of the opcode table (R98, R104, R120). -/

namespace Sys2Proof

/-- How many bytes a port carries at once: an operation word (R105) or a frame (R104). -/
def Port.size : Port → Nat
  | .ctrl => 1
  | .transmit | .receive => 64

theorem headerWord_and (a b c x y z : Byte) (rest : List Byte) :
    headerWord (a :: b :: c :: rest) &&& (x ++ y ++ z) = (a &&& x) ++ (b &&& y) ++ (c &&& z) := by
  have h : (a ++ b ++ c) &&& (x ++ y ++ z) = (a &&& x) ++ (b &&& y) ++ (c &&& z) := by
    rw [BitVec.and_append, BitVec.and_append]
  exact h

/-- A frame's header word matches a row when its three bytes match the row's three bytes (R98). -/
theorem rowMatches_of_bytes {i : Instr} {a b c x y z p q r : Byte} {rest : List Byte} (hm : i.rowMask = x ++ y ++ z)
    (hp : i.rowMatch = p ++ q ++ r) (ha : a &&& x = p) (hb : b &&& y = q) (hc : c &&& z = r) :
    i.rowMatches (a :: b :: c :: rest) = true := by
  unfold Instr.rowMatches
  rw [hm, hp, headerWord_and, ha, hb, hc]
  exact beq_self_eq_true _

theorem and_zero_byte (b : Byte) : b &&& 0x00 = 0x00 := by simp

theorem six_bits_high (l : BitVec 6) : l.setWidth 8 &&& (0xc0 : Byte) = 0x00 := by revert l; decide

theorem six_bits_high_with_bit6 (l : BitVec 6) : (l.setWidth 8 ||| (0x40 : Byte)) &&& 0xc0 = 0x40 := by revert l; decide

theorem seven_bits_high (c : BitVec 7) : c.setWidth 8 &&& (0x80 : Byte) = 0x00 := by revert c; decide

theorem seven_bits_high_with_bit7 (c : BitVec 7) : (c.setWidth 8 ||| (0x80 : Byte)) &&& 0x80 = 0x80 := by revert c; decide

end Sys2Proof

namespace Sys2Proof.Laws.EncodedRow

/-- The encoded instruction fills its port and matches its row. -/
def Statement (i : Instr) : Prop :=
  (encode i).length = i.port.size ∧ i.rowMatches (encode i) = true

theorem nop : Statement .nop := ⟨rfl, by decide⟩

theorem transact : Statement .transact := ⟨rfl, by decide⟩

theorem encode : Statement .encode := ⟨rfl, by decide⟩

theorem decode : Statement .decode := ⟨rfl, by decide⟩

theorem req (type : Byte) (len : BitVec 6) (cmd : BitVec 7) (body : FrameBody) : Statement (.req type len cmd body) :=
  ⟨by simp [Sys2Proof.encode, Instr.port, Port.size],
    rowMatches_of_bytes (x := 0x00) (y := 0xc0) (z := 0x80) (p := 0x00) (q := 0x00) (r := 0x00) rfl rfl (and_zero_byte _) (six_bits_high _) (seven_bits_high _)⟩

theorem rspAck (type : Byte) (len : BitVec 6) (cmd : BitVec 7) (body : FrameBody) : Statement (.rspAck type len cmd body) :=
  ⟨by simp [Sys2Proof.encode, Instr.port, Port.size],
    rowMatches_of_bytes (x := 0x00) (y := 0xc0) (z := 0x80) (p := 0x00) (q := 0x00) (r := 0x00) rfl rfl (and_zero_byte _) (six_bits_high _) (seven_bits_high _)⟩

theorem rspNack (type : Byte) (len : BitVec 6) (cmd : BitVec 7) (body : FrameBody) : Statement (.rspNack type len cmd body) :=
  ⟨by simp [Sys2Proof.encode, Instr.port, Port.size],
    rowMatches_of_bytes (x := 0x00) (y := 0xc0) (z := 0x80) (p := 0x00) (q := 0x00) (r := 0x80) rfl rfl (and_zero_byte _) (six_bits_high _) (seven_bits_high_with_bit7 _)⟩

theorem illegalLen64To127 (type : Byte) (len : BitVec 6) (cmd : Byte) (body : FrameBody) : Statement (.illegalLen64To127 type len cmd body) :=
  ⟨by simp [Sys2Proof.encode, Instr.port, Port.size],
    rowMatches_of_bytes (x := 0x00) (y := 0xc0) (z := 0x00) (p := 0x00) (q := 0x40) (r := 0x00) rfl rfl (and_zero_byte _) (six_bits_high_with_bit6 _) (and_zero_byte _)⟩

theorem illegalLen128To255 (type : Byte) (len : BitVec 7) (cmd : Byte) (body : FrameBody) : Statement (.illegalLen128To255 type len cmd body) :=
  ⟨by simp [Sys2Proof.encode, Instr.port, Port.size],
    rowMatches_of_bytes (x := 0x00) (y := 0x80) (z := 0x00) (p := 0x00) (q := 0x80) (r := 0x00) rfl rfl (and_zero_byte _) (seven_bits_high_with_bit7 _) (and_zero_byte _)⟩

theorem eepromSetpos (len : Byte) (body : FrameBody) : Statement (.eepromSetpos len body) :=
  ⟨by simp [Sys2Proof.encode, Instr.port, Port.size],
    rowMatches_of_bytes (x := 0xff) (y := 0x00) (z := 0xff) (p := 0xa0) (q := 0x00) (r := 0x00) rfl rfl rfl (and_zero_byte _) rfl⟩

theorem eepromRead (len : Byte) (body : FrameBody) : Statement (.eepromRead len body) :=
  ⟨by simp [Sys2Proof.encode, Instr.port, Port.size],
    rowMatches_of_bytes (x := 0xff) (y := 0x00) (z := 0xff) (p := 0xa0) (q := 0x00) (r := 0x02) rfl rfl rfl (and_zero_byte _) rfl⟩

theorem eepromWrite (len : Byte) (body : FrameBody) : Statement (.eepromWrite len body) :=
  ⟨by simp [Sys2Proof.encode, Instr.port, Port.size],
    rowMatches_of_bytes (x := 0xff) (y := 0x00) (z := 0xff) (p := 0xa0) (q := 0x00) (r := 0x20) rfl rfl rfl (and_zero_byte _) rfl⟩

theorem eepromReadat (len : Byte) (body : FrameBody) : Statement (.eepromReadat len body) :=
  ⟨by simp [Sys2Proof.encode, Instr.port, Port.size],
    rowMatches_of_bytes (x := 0xff) (y := 0x00) (z := 0xff) (p := 0xa0) (q := 0x00) (r := 0x23) rfl rfl rfl (and_zero_byte _) rfl⟩

theorem eepromAuxread1 (len : Byte) (body : FrameBody) : Statement (.eepromAuxread1 len body) :=
  ⟨by simp [Sys2Proof.encode, Instr.port, Port.size],
    rowMatches_of_bytes (x := 0xff) (y := 0x00) (z := 0xff) (p := 0xa0) (q := 0x00) (r := 0x11) rfl rfl rfl (and_zero_byte _) rfl⟩

theorem eepromAuxread2 (len : Byte) (body : FrameBody) : Statement (.eepromAuxread2 len body) :=
  ⟨by simp [Sys2Proof.encode, Instr.port, Port.size],
    rowMatches_of_bytes (x := 0xff) (y := 0x00) (z := 0xff) (p := 0xa0) (q := 0x00) (r := 0x71) rfl rfl rfl (and_zero_byte _) rfl⟩

theorem stateRead (len : Byte) (body : FrameBody) : Statement (.stateRead len body) :=
  ⟨by simp [Sys2Proof.encode, Instr.port, Port.size],
    rowMatches_of_bytes (x := 0xff) (y := 0x00) (z := 0xff) (p := 0xde) (q := 0x00) (r := 0x31) rfl rfl rfl (and_zero_byte _) rfl⟩

theorem stateWrite1 (len : Byte) (body : FrameBody) : Statement (.stateWrite1 len body) :=
  ⟨by simp [Sys2Proof.encode, Instr.port, Port.size],
    rowMatches_of_bytes (x := 0xff) (y := 0x00) (z := 0xff) (p := 0xde) (q := 0x00) (r := 0x30) rfl rfl rfl (and_zero_byte _) rfl⟩

theorem dptxCtrl1 (len : Byte) (body : FrameBody) : Statement (.dptxCtrl1 len body) :=
  ⟨by simp [Sys2Proof.encode, Instr.port, Port.size],
    rowMatches_of_bytes (x := 0xff) (y := 0x00) (z := 0xff) (p := 0x10) (q := 0x00) (r := 0x10) rfl rfl rfl (and_zero_byte _) rfl⟩

theorem dptxCtrl2 (len : Byte) (body : FrameBody) : Statement (.dptxCtrl2 len body) :=
  ⟨by simp [Sys2Proof.encode, Instr.port, Port.size],
    rowMatches_of_bytes (x := 0xff) (y := 0x00) (z := 0xff) (p := 0x10) (q := 0x00) (r := 0x70) rfl rfl rfl (and_zero_byte _) rfl⟩

theorem dptxData1 (len : Byte) (body : FrameBody) : Statement (.dptxData1 len body) :=
  ⟨by simp [Sys2Proof.encode, Instr.port, Port.size],
    rowMatches_of_bytes (x := 0xff) (y := 0x00) (z := 0xff) (p := 0x10) (q := 0x00) (r := 0x11) rfl rfl rfl (and_zero_byte _) rfl⟩

theorem dptxData2 (len : Byte) (body : FrameBody) : Statement (.dptxData2 len body) :=
  ⟨by simp [Sys2Proof.encode, Instr.port, Port.size],
    rowMatches_of_bytes (x := 0xff) (y := 0x00) (z := 0xff) (p := 0x10) (q := 0x00) (r := 0x71) rfl rfl rfl (and_zero_byte _) rfl⟩

end Sys2Proof.Laws.EncodedRow
end

