-- ==== Sys2Proof/Laws/Step.lean ====
section
/-! SUPPORT. What a step can do, said once: each move of an agent as an equation over the shared operations, with no dispatch left
in it. -/

namespace Sys2Proof.Machine

/-- An instruction of the transmit port transmits its own bytes. -/
theorem exec_of_port_transmit {i : Instr} (h : i.port = .transmit) (s : State) :
    exec i s = .next (s.transmit (frameOf (encode i))) := by
  cases i <;> first
    | rfl
    | cases h

/-- An instruction of the receive port receives its own bytes. -/
theorem exec_of_port_receive {i : Instr} (h : i.port = .receive) (s : State) :
    exec i s = .next (s.receive (encode i)) := by
  cases i <;> first
    | rfl
    | cases h

theorem frameOf_toList (f : Frame) : frameOf f.toList = f := fit_toList_self f

/-- The send step sends `TXBUF`, whatever instruction it is (R181). -/
theorem sendStep_eq (s : State) : sendStep s = .next (s.transmit s.txbuf) := by
  unfold sendStep
  split
  · split
    · rename_i i h
      rw [exec_of_port_transmit (port_of_decode h), encode_of_decode h, frameOf_toList]
    · rfl
  · rename_i h
    rw [State.transmit, if_neg h]

/-- The take step takes the head of `RXQ` while `PHASE = WAIT`, and does nothing otherwise (R184). -/
theorem takeStep_cases (s : State) :
    (∃ d ds, s.phase = .wait ∧ s.rxq = d :: ds ∧ takeStep s = .next (State.takeDelivery d { s with rxq := ds })) ∨
    (¬(s.phase = .wait ∧ s.rxq ≠ []) ∧ takeStep s = .next s) := by
  unfold takeStep
  split
  · rename_i h
    have hw := s.rxReady_eq_true.mp h
    split
    · rename_i hq
      exact .inr ⟨fun hs => hs.2 hq, rfl⟩
    · rename_i d ds hq
      refine .inl ⟨d, ds, hw, hq, ?_⟩
      split
      · rename_i i hi
        rw [exec_of_port_receive (port_of_decode hi), encode_of_decode hi]
        rw [State.receive_of_wait (by exact hw)]
      · rw [State.receive_of_wait (by exact hw)]
  · rename_i h
    exact .inr ⟨fun hs => h (s.rxReady_eq_true.mpr hs.1), rfl⟩

/-- What a write to `CTRL` does: one of the four operations, or the refusal of a reserved word (R105, R112). -/
theorem writeCtrl_cases (v : Byte) (s : State) :
    (v = 0x00 ∧ writeCtrl v s = execNop s) ∨ (v = 0x01 ∧ writeCtrl v s = execTransact s) ∨
    (v = 0x02 ∧ writeCtrl v s = execEncode s) ∨ (v = 0x03 ∧ writeCtrl v s = execDecode s) ∨
    (3 < v.toNat ∧ writeCtrl v s = .next s.badOpWord) := by
  unfold writeCtrl
  simp only [decode, decodeOpWord]
  by_cases h0 : v = 0x00
  · subst h0; exact .inl ⟨rfl, rfl⟩
  by_cases h1 : v = 0x01
  · subst h1; exact .inr (.inl ⟨rfl, rfl⟩)
  by_cases h2 : v = 0x02
  · subst h2; exact .inr (.inr (.inl ⟨rfl, rfl⟩))
  by_cases h3 : v = 0x03
  · subst h3; exact .inr (.inr (.inr (.inl ⟨rfl, rfl⟩)))
  refine .inr (.inr (.inr (.inr ⟨by bv_omega, ?_⟩)))
  rw [if_neg h0, if_neg h1, if_neg h2, if_neg h3]

theorem hostWrite_ctrl {addr : BitVec 9} (h : locate addr = .ctrl) (v : Byte) (s : State) :
    hostWrite addr v s = writeCtrl v s := by
  simp [hostWrite, h]

theorem hostWrite_not_ctrl {addr : BitVec 9} (h : locate addr ≠ .ctrl) (v : Byte) (s : State) :
    hostWrite addr v s = .next (s.writeLocation (locate addr) v) := by
  simp [hostWrite, h]

theorem step_cons {s : State} {m : Move} {ms : List Move} (h : s.inputs = m :: ms) :
    step s = performMove m { s with inputs := ms } := by
  simp only [step, h]

theorem step_nil {s : State} (h : s.inputs = []) : step s = performMove (quietMove s) s := by
  simp only [step, h]

/-- The three ways an instruction is read: one of the four operation words, a request frame, a received frame. -/
theorem port_cases (i : Instr) :
    i = .nop ∨ i = .transact ∨ i = .encode ∨ i = .decode ∨ i.port = .transmit ∨ i.port = .receive := by
  cases i <;> simp [Instr.port]

/-- What a decoded delivery does inside `DECODE`, by the kind of its result (R160 to R163). -/
theorem State.reportDecoded_cases (r : DecodeResult) (s : State) :
    (∃ p, r = .ok p ∧ s.reportDecoded r = (s.writeResponse p).raise p.result .none) ∨
    (r = .checksumError ∧ s.reportDecoded r = State.raise .noPacket .checksum { s with chkerr := true }) ∨
    (∃ e, r = .frameLengthError e ∧ s.reportDecoded r = s.raise .frameLengthError e.cause) := by
  cases r with
  | ok p => exact .inl ⟨p, rfl, rfl⟩
  | checksumError => exact .inr (.inl ⟨rfl, rfl⟩)
  | frameLengthError e => exact .inr (.inr ⟨e, rfl, rfl⟩)

/-- What a taken delivery does: it is recorded and the transaction ends, with a packet's fields or without (R184 to R186). -/
theorem State.takeDelivery_cases (d : Delivery) (s : State) :
    (∃ p, packetDecode Config.lenEdgePolicy d = .ok p ∧
      s.takeDelivery d = ((s.loadDelivery d).writeResponse p).finish p.result .none) ∨
    (packetDecode Config.lenEdgePolicy d = .checksumError ∧
      s.takeDelivery d = State.finish .noResponse .checksum { s.loadDelivery d with chkerr := true }) ∨
    (∃ e, packetDecode Config.lenEdgePolicy d = .frameLengthError e ∧ d ≠ [] ∧
      s.takeDelivery d = (s.loadDelivery d).finish .frameLengthError e.cause) ∨
    (d = [] ∧ s.takeDelivery d = (s.loadDelivery d).finish .noResponse .emptyDelivery) := by
  by_cases hd : d = []
  · subst hd
    exact .inr (.inr (.inr ⟨rfl, rfl⟩))
  · rw [State.takeDelivery_of_ne_nil hd]
    cases h : packetDecode Config.lenEdgePolicy d with
    | ok p => exact .inl ⟨p, rfl, rfl⟩
    | checksumError => exact .inr (.inl ⟨rfl, rfl⟩)
    | frameLengthError e => exact .inr (.inr (.inl ⟨e, rfl, hd, rfl⟩))

/-- Everything an instruction can do, by the state it runs in. -/
theorem exec_cases {i : Instr} {s t : State} (h : exec i s = .next t) :
    (i = .nop ∧ t = s) ∨
    (s.phase ≠ .idle ∧ i.port = .ctrl ∧ t = s.refuseBusy) ∨
    (s.phase = .idle ∧ i = .transact ∧ s.requestCause = none ∧ t = s.startTransaction) ∨
    (s.phase = .idle ∧ i = .encode ∧ s.requestCause = none ∧ t = s.loadRequestFrame.raise .encoded .none) ∨
    (s.phase = .idle ∧ (i = .transact ∨ i = .encode) ∧ ∃ c, s.requestCause = some c ∧ t = s.raise .badRequest c) ∨
    (s.phase = .idle ∧ i = .decode ∧
      t = s.clearResponse.reportDecoded (packetDecode Config.lenEdgePolicy s.heldDelivery)) ∨
    (s.phase = .send ∧ i.port = .transmit ∧ t = s.sendFrame (frameOf (encode i))) ∨
    (s.phase = .wait ∧ i.port = .receive ∧ t = s.takeDelivery (encode i)) ∨
    (s.phase ≠ .send ∧ i.port = .transmit ∧ t = s) ∨
    (s.phase ≠ .wait ∧ i.port = .receive ∧ t = { s with rxq := encode i :: s.rxq }) := by
  rcases port_cases i with rfl | rfl | rfl | rfl | hp | hp
  · cases h
    simp
  · simp only [exec, execTransact] at h
    split at h
    · cases h
      simp [Instr.port, s.busy_eq_true.mp ‹_›]
    · cases h
      have hi := s.busy_eq_false.mp (by simpa using ‹¬s.busy = true›)
      rcases s.withCheckedRequest_cases s.startTransaction with ⟨h1, h2⟩ | ⟨c, h1, h2⟩ <;> simp [h1, h2, hi]
  · simp only [exec, execEncode] at h
    split at h
    · cases h
      simp [Instr.port, s.busy_eq_true.mp ‹_›]
    · cases h
      have hi := s.busy_eq_false.mp (by simpa using ‹¬s.busy = true›)
      rcases s.withCheckedRequest_cases (s.loadRequestFrame.raise .encoded .none) with ⟨h1, h2⟩ | ⟨c, h1, h2⟩ <;>
        simp [h1, h2, hi]
  · simp only [exec, execDecode] at h
    split at h
    · cases h
      simp [Instr.port, s.busy_eq_true.mp ‹_›]
    · cases h
      have hi := s.busy_eq_false.mp (by simpa using ‹¬s.busy = true›)
      simp [hi]
  · rw [exec_of_port_transmit hp] at h
    cases h
    by_cases hs : s.phase = .send
    · simp [hs, hp, State.transmit_of_send]
    · simp [hs, hp, State.transmit_of_not_send]
  · rw [exec_of_port_receive hp] at h
    cases h
    by_cases hs : s.phase = .wait
    · simp [hs, hp, State.receive_of_wait]
    · simp [hs, hp, State.receive_of_not_wait]

/-- Everything that a write to `CTRL` can do. -/
theorem writeCtrl_next {v : Byte} {s t : State} (h : writeCtrl v s = .next t) :
    (v = 0x00 ∧ t = s) ∨
    (v ≠ 0x00 ∧ s.phase ≠ .idle ∧ t = s.refuseBusy) ∨
    (v = 0x01 ∧ s.phase = .idle ∧ s.requestCause = none ∧ t = s.startTransaction) ∨
    (v = 0x02 ∧ s.phase = .idle ∧ s.requestCause = none ∧ t = s.loadRequestFrame.raise .encoded .none) ∨
    ((v = 0x01 ∨ v = 0x02) ∧ s.phase = .idle ∧ ∃ c, s.requestCause = some c ∧ t = s.raise .badRequest c) ∨
    (v = 0x03 ∧ s.phase = .idle ∧
      t = s.clearResponse.reportDecoded (packetDecode Config.lenEdgePolicy s.heldDelivery)) ∨
    (3 < v.toNat ∧ s.phase = .idle ∧ t = s.raise .badRequest .badOp) := by
  rcases writeCtrl_cases v s with ⟨rfl, hw⟩ | ⟨rfl, hw⟩ | ⟨rfl, hw⟩ | ⟨rfl, hw⟩ | ⟨hv, hw⟩ <;> rw [hw] at h
  · cases h
    exact .inl ⟨rfl, rfl⟩
  · have := exec_cases (i := .transact) h
    simpa [Instr.port] using this
  · have := exec_cases (i := .encode) h
    simpa [Instr.port] using this
  · have := exec_cases (i := .decode) h
    simpa [Instr.port] using this
  · cases h
    rcases s.badOpWord_cases with ⟨hi, hb⟩ | ⟨hi, hb⟩ <;> rw [hb]
    · exact .inr (.inr (.inr (.inr (.inr (.inr ⟨hv, hi, rfl⟩)))))
    · exact .inr (.inl ⟨by rintro rfl; simp at hv, hi, rfl⟩)

/-- Everything that a step of the engine, the transport or the timer can do (R171, R172). -/
theorem engineMove_next {m : EngineMove} {s t : State} (h : engineMove m s = .next t) :
    t = s ∨
    (m = .send ∧ s.phase = .send ∧ t = s.sendFrame s.txbuf) ∨
    (m = .take ∧ s.phase = .wait ∧ ∃ d ds, s.rxq = d :: ds ∧ t = State.takeDelivery d { s with rxq := ds }) ∨
    (m = .tick ∧ s.phase = .wait ∧ s.timer ≠ 0 ∧ t = { s with timer := s.timer - 1 }) ∨
    (((m = .expire ∧ s.timer = 0) ∨ m = .expireUntimed) ∧ s.phase = .wait ∧ s.rxq = [] ∧
      t = s.finish .noResponse .timeout) := by
  cases m <;> simp only [engineMove] at h
  · rw [sendStep_eq] at h
    cases h
    by_cases hs : s.phase = .send
    · simp [hs, State.transmit_of_send]
    · simp [hs, State.transmit_of_not_send]
  · rcases takeStep_cases s with ⟨d, ds, hw, hq, ht⟩ | ⟨_, ht⟩ <;> rw [ht] at h <;> cases h
    · exact .inr (.inr (.inl ⟨rfl, hw, d, ds, hq, rfl⟩))
    · exact .inl rfl
  · cases h
    rcases s.tick_cases with ⟨hw, h0, ht⟩ | ⟨_, ht⟩ <;> rw [ht]
    · exact .inr (.inr (.inr (.inl ⟨rfl, hw, h0, rfl⟩)))
    · exact .inl rfl
  · cases h
    rcases s.expire_cases with ⟨hw, hq, h0, ht⟩ | ⟨_, ht⟩ <;> rw [ht]
    · exact .inr (.inr (.inr (.inr ⟨.inl ⟨rfl, h0⟩, hw, hq, rfl⟩)))
    · exact .inl rfl
  · cases h
    rcases s.expireUntimed_cases with ⟨hw, hq, ht⟩ | ⟨_, ht⟩ <;> rw [ht]
    · exact .inr (.inr (.inr (.inr ⟨.inr rfl, hw, hq, rfl⟩)))
    · exact .inl rfl

/-- Everything that a host write can do (R49, R60, R73, R105). -/
theorem hostWrite_next {a : BitVec 9} {v : Byte} {s t : State} (h : hostWrite a v s = .next t) :
    (locate a = .ctrl ∧ writeCtrl v s = .next t) ∨
    (locate a = .status ∧ t = s.writeStatus v) ∨
    ((locate a).idleWritable = true ∧ s.phase ≠ .idle ∧ t = s.refuseBusy) ∨
    ((locate a).idleWritable = true ∧ s.phase = .idle ∧ t = s.storeLocation (locate a) v) ∨
    t = s := by
  by_cases hc : locate a = .ctrl
  · rw [hostWrite_ctrl hc] at h
    exact .inl ⟨hc, h⟩
  · rw [hostWrite_not_ctrl hc] at h
    cases h
    rcases s.writeLocation_cases (locate a) v with ⟨hl, hw⟩ | ⟨hl, hp, hw⟩ | ⟨hl, hp, hw⟩ | ⟨_, _, hw⟩ <;> rw [hw]
    · exact .inr (.inl ⟨hl, rfl⟩)
    · exact .inr (.inr (.inl ⟨hl, hp, rfl⟩))
    · exact .inr (.inr (.inr (.inl ⟨hl, hp, rfl⟩)))
    · exact .inr (.inr (.inr (.inr rfl)))

/-- Everything that a move can do (R171). -/
theorem performMove_next {m : Move} {s t : State} (h : performMove m s = .next t) :
    t = s ∨
    (∃ a, m = .read a ∧ t = { s with hostData := s.windowRead a }) ∨
    (∃ a v, m = .write a v ∧ hostWrite a v s = .next t) ∨
    (∃ e, m = .engine e ∧ engineMove e s = .next t) ∨
    (∃ v e, m = .statusWriteWith v e ∧ engineMove e (s.writeStatus v) = .next t) ∨
    (∃ d, m = .deliver d ∧ t = { s with rxq := s.rxq ++ [d] }) ∨
    (∃ taken, m = .reset taken ∧ t = s.hardReset taken) := by
  cases m with
  | read a => cases h; exact .inr (.inl ⟨a, rfl, rfl⟩)
  | write a v => exact .inr (.inr (.inl ⟨a, v, rfl, h⟩))
  | engine e => exact .inr (.inr (.inr (.inl ⟨e, rfl, h⟩)))
  | statusWriteWith v e => exact .inr (.inr (.inr (.inr (.inl ⟨v, e, rfl, h⟩))))
  | deliver d => cases h; exact .inr (.inr (.inr (.inr (.inr (.inl ⟨d, rfl, rfl⟩)))))
  | reset taken => cases h; exact .inr (.inr (.inr (.inr (.inr (.inr ⟨taken, rfl, rfl⟩)))))
  | idle => cases h; exact .inl rfl

/-- The move that a step performs, and the state it performs it in: the oldest pending one, or the quiet one. -/
theorem step_next {s t : State} (h : step s = .next t) :
    (∃ m ms, s.inputs = m :: ms ∧ performMove m { s with inputs := ms } = .next t) ∨
    (s.inputs = [] ∧ performMove (quietMove s) s = .next t) := by
  cases hi : s.inputs with
  | nil => exact .inr ⟨rfl, by rw [← step_nil hi]; exact h⟩
  | cons m ms => exact .inl ⟨m, ms, rfl, by rw [← step_cons hi]; exact h⟩

/-- The quiet move is a step of the engine or nothing. -/
theorem quietMove_cases (s : State) :
    (s.phase ≠ .wait ∧ quietMove s = .idle) ∨ (s.phase = .wait ∧ ∃ e, quietMove s = .engine e) := by
  unfold quietMove
  split
  · exact .inr ⟨by assumption, _, rfl⟩
  · split
    · exact .inr ⟨by assumption, _, rfl⟩
    · exact .inr ⟨by assumption, _, rfl⟩
  · rename_i h
    exact .inl ⟨by rw [h]; decide, rfl⟩
  · rename_i h
    exact .inl ⟨by rw [h]; decide, rfl⟩

/-- A run of one more step, where the first step is known. -/
theorem run_succ {s t : State} (h : step s = .next t) (k : Nat) :
    Host.Core.run core (k + 1) s = Host.Core.run core k t := by
  have hc : core.step s = Host.Outcome.next t := h
  simp only [Host.Core.run, hc]

end Sys2Proof.Machine
end

