-- ==== Sys2Proof/Laws/Window.lean ====
section
/-! SUPPORT. The map of the window is one-to-one outside its reserved locations; the addresses the host may write. -/

namespace Sys2Proof.Machine

/-- The address of a location, as R61 lists it; 0 for a reserved one. -/
def Location.address : Location → Nat
  | .ctrl => 0x000
  | .status => 0x001
  | .result => 0x002
  | .cause => 0x003
  | .reqType => 0x004
  | .reqCmd => 0x005
  | .reqPlen => 0x006
  | .phase => 0x007
  | .timeoutLow => 0x008
  | .timeoutHigh => 0x009
  | .rspType => 0x00a
  | .rspCmd => 0x00b
  | .rspAck => 0x00c
  | .rspPlen => 0x00d
  | .rxCount => 0x00e
  | .reqPayload i => 0x040 + i.val
  | .rspPayload i => 0x080 + i.val
  | .txbuf i => 0x0c0 + i.val
  | .rxbuf i => 0x100 + i.val
  | .reserved => 0

theorem controlLocation_address (a : Nat) (h : controlLocation a ≠ .reserved) : (controlLocation a).address = a := by
  unfold controlLocation at *
  split at h <;> first
    | rfl
    | exact absurd rfl h

/-- The map gives each address back (R61). -/
theorem locationAt_address (a : Nat) (h : locationAt a ≠ .reserved) : (locationAt a).address = a := by
  unfold locationAt at *
  repeat' split
  all_goals simp_all [Location.address]
  all_goals first
    | omega
    | exact controlLocation_address a (by assumption)

/-- Two addresses with the same location, outside the reserved ones, are the same address. -/
theorem locate_injective {a b : BitVec 9} (h : locate a = locate b) (hr : locate a ≠ .reserved) : a = b := by
  have ha := locationAt_address a.toNat hr
  have hb := locationAt_address b.toNat (by rw [show locationAt b.toNat = locate b from rfl, ← h]; exact hr)
  apply BitVec.eq_of_toNat_eq
  rw [← ha, ← hb]
  exact congrArg Location.address h

/-- The addresses that the host may write in `IDLE`, as R61 lists them. -/
theorem idleWritable_of_address {a : BitVec 9}
    (h : (0x004 ≤ a.toNat ∧ a.toNat ≤ 0x006) ∨ a.toNat = 0x008 ∨ a.toNat = 0x009 ∨ a.toNat = 0x00e ∨
      (0x040 ≤ a.toNat ∧ a.toNat ≤ 0x07b) ∨ (0x100 ≤ a.toNat ∧ a.toNat ≤ 0x13f)) :
    (locate a).idleWritable = true := by
  unfold locate locationAt
  repeat' split
  all_goals first
    | rfl
    | omega
    | (have hc : a.toNat = 4 ∨ a.toNat = 5 ∨ a.toNat = 6 ∨ a.toNat = 8 ∨ a.toNat = 9 ∨ a.toNat = 14 := by omega
       rcases hc with hc | hc | hc | hc | hc | hc <;> rw [hc] <;> rfl)

end Sys2Proof.Machine
end

