-- ==== Sys2Proof/Tests/Slice0.lean ====
section
/-! SUPPORT. Tests whose expected values come from 95_test_vectors.md (E, X and T are its vectors) or are worked out by hand from a
rule, one step each; then, for every obligation with hypotheses, a state and operands that meet them. -/

namespace Sys2Proof.Tests
open Sys2Proof Sys2Proof.Machine

-- Helpers

/-- A listing of 95_test_vectors.md, followed by `00` up to offset 63. -/
def bytes64 (l : List Byte) : List Byte := l ++ List.replicate (64 - l.length) 0

/-- The bytes after the header of a listing. -/
def body61 (l : List Byte) : FrameBody := fit 61 l

/-- The next state of an outcome. -/
def after : Host.Outcome State Fault Refusal → State
  | .next s => s
  | .fault r => nomatch r
  | .refused _ => State.reset

/-- `IDLE` with a request of one payload byte in the request registers. -/
def asking (type cmd : Byte) (plen : Byte) (b : Byte) : State :=
  { State.reset with reqType := type, reqCmd := cmd, reqPlen := plen, reqPayload := fit 60 [b] }

/-- `IDLE` with a delivery of 64 bytes, or of another count, written into `RXBUF`. -/
def holding (count : Byte) (l : List Byte) : State := { State.reset with rxCount := count, rxbuf := fit 64 l }

/-- `SEND` with a frame offered. -/
def sending (l : List Byte) : State := { State.reset with phase := .send, txbuf := fit 64 l }

/-- `WAIT` with one delivery waiting, a fresh timer. -/
def waiting (l : List Byte) : State := { State.reset with phase := .wait, timer := 250, rxq := [bytes64 l] }

/-- `WAIT` with nothing delivered yet. -/
def awaiting : State := { State.reset with phase := .wait, timer := 250 }

-- Well-formedness: each check refuses an ill-formed term

theorem test_wf_request_length_zero : (Instr.req 0x55 0 0x01 (body61 [])).wf = false := by decide
theorem test_wf_request_length_62 : (Instr.req 0x55 62 0x01 (body61 [])).wf = false := by decide
theorem test_wf_request_documented_pair : (Instr.req 0xa0 2 0x02 (body61 [])).wf = false := by decide
theorem test_wf_request : (Instr.req 0xa0 2 0x7f (body61 [])).wf = true := by decide

-- Decoding: words written out from the encodings (R98, R108 to R112, R99, R113, R213 to R224)

theorem test_word_nop : decodeTableWord 8 0b00000000 = some .nop := by decide
theorem test_word_transact : decodeTableWord 8 0b00000001 = some .transact := by decide
theorem test_word_encode : decodeTableWord 8 0b00000010 = some .encode := by decide
theorem test_word_decode : decodeTableWord 8 0b00000011 = some .decode := by decide
theorem test_word_reserved_bits : decodeTableWord 8 0b10000001 = none := by decide

/-- Header of E11: type `a0`, length 2, command `7f`: no documented pair (R118). -/
theorem test_word_req :
    decodeTableWord 24 0b101000000000001001111111 = some (.req 0xa0 2 0x7f (body61 [])) := by decide
/-- Header of X1 as received: type `a0`, length 3, command byte `02`. -/
theorem test_bytes_rspAck :
    decode .receive (bytes64 [0xa0, 0x03, 0x02, 0x12, 0x34, 0x15]) = .ok (.rspAck 0xa0 3 0x02 (body61 [0x12, 0x34, 0x15])) := by
  decide
/-- Header of X2: command byte `82` has bit 7 set. -/
theorem test_word_rspNack :
    decodeTableWord 24 0b101000000000000110000010 = some (.rspNack 0xa0 1 0x02 (body61 [])) := by decide
/-- Length field 127: bits 7:6 are 01. -/
theorem test_bytes_illegal127 :
    decode .receive (bytes64 [0xa0, 0b01111111, 0x02]) = .ok (.illegalLen64To127 0xa0 63 0x02 (body61 [])) := by decide
/-- Header of X12: length field 255. -/
theorem test_bytes_illegal255 :
    decode .receive (bytes64 [0xa0, 0b11111111, 0x02, 0x01]) = .ok (.illegalLen128To255 0xa0 127 0x02 (body61 [0x01])) := by
  decide
/-- A request never has bit 7 of its command byte set (R115). -/
theorem test_bytes_nack_is_no_request :
    decode .transmit (bytes64 [0xa0, 0x01, 0x82]) = .error .nackInRequest := by decide
/-- A frame is 64 bytes (R104). -/
theorem test_bytes_short_delivery : decode .receive [0xa0, 0x03, 0x02] = .error .wrongSize := by decide

theorem test_word_eepromSetpos : decodeTableWord 24 0xa00300 = some (.eepromSetpos 3 (body61 [])) := by decide
theorem test_word_eepromRead : decodeTableWord 24 0xa00202 = some (.eepromRead 2 (body61 [])) := by decide
theorem test_word_eepromWrite : decodeTableWord 24 0xa00120 = some (.eepromWrite 1 (body61 [])) := by decide
theorem test_word_eepromReadat : decodeTableWord 24 0xa00423 = some (.eepromReadat 4 (body61 [])) := by decide
theorem test_word_eepromAuxread1 : decodeTableWord 24 0xa00111 = some (.eepromAuxread1 1 (body61 [])) := by decide
theorem test_word_eepromAuxread2 : decodeTableWord 24 0xa00171 = some (.eepromAuxread2 1 (body61 [])) := by decide
theorem test_word_stateRead : decodeTableWord 24 0xde0431 = some (.stateRead 4 (body61 [])) := by decide
theorem test_word_stateWrite1 : decodeTableWord 24 0xde0130 = some (.stateWrite1 1 (body61 [])) := by decide
theorem test_word_dptxCtrl1 : decodeTableWord 24 0x100210 = some (.dptxCtrl1 2 (body61 [])) := by decide
theorem test_word_dptxCtrl2 : decodeTableWord 24 0x100170 = some (.dptxCtrl2 1 (body61 [])) := by decide
theorem test_word_dptxData1 : decodeTableWord 24 0x100111 = some (.dptxData1 1 (body61 [])) := by decide
theorem test_word_dptxData2 : decodeTableWord 24 0x100171 = some (.dptxData2 1 (body61 [])) := by decide
/-- X2 answers `EEPROM.READ` (95_test_vectors.md section 5). -/
theorem test_answered_command :
    answeredCommand 0xa0 0x01 0x82 (body61 [0xdd]) = some (.eepromRead 1 (body61 [0xdd])) := by decide

-- The operations

theorem test_nop_keeps_status : exec .nop awaiting = .next awaiting := rfl

/-- T2: the frame of the request, the phase. -/
theorem test_transact_starts :
    (after (exec .transact (asking 0xa0 0x02 1 0x3c))).phase = .send ∧
    (after (exec .transact (asking 0xa0 0x02 1 0x3c))).txbuf.toList.take 6 = [0xa0, 0x02, 0x02, 0x3c, 0x20, 0x00] := by
  decide
/-- E17: the payload length is checked before the command bit. -/
theorem test_transact_checks_length_first :
    (after (exec .transact (asking 0xa0 0x82 61 0))).cause = .payloadTooLong ∧
    (after (exec .transact (asking 0xa0 0x82 61 0))).phase = .idle := by
  decide
/-- E4: covered bytes that sum to 256 have the checksum `00`. -/
theorem test_encode_checksum_zero :
    (after (exec .encode (asking 0xff 0x00 0 0))).txbuf.toList.take 5 = [0xff, 0x01, 0x00, 0x00, 0x00] ∧
    (after (exec .encode (asking 0xff 0x00 0 0))).result = .encoded := by
  decide
/-- E16: bit 7 of the command. -/
theorem test_encode_refuses_command_bit :
    (after (exec .encode (asking 0xa0 0x80 0 0))).result = .badRequest ∧
    (after (exec .encode (asking 0xa0 0x80 0 0))).cause = .cmdBit7 ∧
    (after (exec .encode (asking 0xa0 0x80 0 0))).done = true := by
  decide
/-- X9: a nack that carries a payload. -/
theorem test_decode_nack_with_payload :
    (after (exec .decode (holding 64 [0xde, 0x02, 0xb0, 0x05, 0x6b]))).result = .nack ∧
    (after (exec .decode (holding 64 [0xde, 0x02, 0xb0, 0x05, 0x6b]))).rspCmd = 0x30 ∧
    (after (exec .decode (holding 64 [0xde, 0x02, 0xb0, 0x05, 0x6b]))).rspPayload.toList.take 2 = [0x05, 0x00] := by
  decide
/-- X14: a long delivery. -/
theorem test_decode_long_delivery :
    (after (exec .decode (holding 65 [0xa0, 0x03, 0x02, 0x12, 0x34, 0x15]))).cause = .rxSize ∧
    (after (exec .decode (holding 65 [0xa0, 0x03, 0x02, 0x12, 0x34, 0x15]))).chkerr = false := by
  decide

-- The frames

/-- E11 goes out as it is. -/
theorem test_req_is_sent :
    (after (exec (.req 0xa0 2 0x7f (body61 [0x80, 0x5f])) (sending []))).txlog.map (·.toList.take 6)
      = [[0xa0, 0x02, 0x7f, 0x80, 0x5f, 0x00]] ∧
    (after (exec (.req 0xa0 2 0x7f (body61 [0x80, 0x5f])) (sending []))).timer = 250 := by
  decide
/-- T1, the take of X1. -/
theorem test_rspAck_payload :
    (after (exec (.rspAck 0xa0 3 0x02 (body61 [0x12, 0x34, 0x15])) awaiting)).result = .ack ∧
    (after (exec (.rspAck 0xa0 3 0x02 (body61 [0x12, 0x34, 0x15])) awaiting)).rspPlen = 2 ∧
    (after (exec (.rspAck 0xa0 3 0x02 (body61 [0x12, 0x34, 0x15])) awaiting)).rspPayload.toList.take 3 = [0x12, 0x34, 0x00] := by
  decide
/-- T6, the take of X3: a bad sum. -/
theorem test_rspAck_bad_sum :
    (after (exec (.rspAck 0xa0 3 0x02 (body61 [0x12, 0x35, 0x15])) awaiting)).result = .noResponse ∧
    (after (exec (.rspAck 0xa0 3 0x02 (body61 [0x12, 0x35, 0x15])) awaiting)).cause = .checksum ∧
    (after (exec (.rspAck 0xa0 3 0x02 (body61 [0x12, 0x35, 0x15])) awaiting)).statusByte = 0x06 := by
  decide
/-- T5, the take of X2. -/
theorem test_rspNack :
    (after (exec (.rspNack 0xa0 1 0x02 (body61 [0xdd])) awaiting)).result = .nack ∧
    (after (exec (.rspNack 0xa0 1 0x02 (body61 [0xdd])) awaiting)).rspCmd = 0x02 ∧
    (after (exec (.rspNack 0xa0 1 0x02 (body61 [0xdd])) awaiting)).rxCount = 64 := by
  decide
/-- X10: a nack with a bad sum is not a nack. -/
theorem test_rspNack_bad_sum :
    (after (exec (.rspNack 0xa0 1 0x02 (body61 [0xdc])) awaiting)).result = .noResponse := by decide
/-- T9, the take of X11: length field 64, although the sum is 0. -/
theorem test_illegal_64 :
    (after (exec (.illegalLen64To127 0xa0 0 0x02 (body61 [0x1e])) awaiting)).result = .frameLengthError ∧
    (after (exec (.illegalLen64To127 0xa0 0 0x02 (body61 [0x1e])) awaiting)).cause = .lenField := by
  decide
/-- X12: the length field is checked before the sum. -/
theorem test_illegal_255 :
    (after (exec (.illegalLen128To255 0xa0 127 0x02 (body61 [0x01])) awaiting)).cause = .lenField ∧
    (after (exec (.illegalLen128To255 0xa0 127 0x02 (body61 [0x01])) awaiting)).chkerr = false := by
  decide

-- The documented commands: each header as the opcode table writes it, on the transmit port

/-- The first five bytes of what an instruction sends. -/
def sent (i : Instr) : List (List Byte) := (after (exec i (sending []))).txlog.map (·.toList.take 5)

theorem test_send_eepromSetpos : sent (.eepromSetpos 3 (body61 [0x00, 0x00, 0x5d])) = [[0xa0, 0x03, 0x00, 0x00, 0x00]] := by decide
theorem test_send_eepromRead : sent (.eepromRead 2 (body61 [0x3c, 0x20])) = [[0xa0, 0x02, 0x02, 0x3c, 0x20]] := by decide
theorem test_send_eepromWrite : sent (.eepromWrite 1 (body61 [0x3f])) = [[0xa0, 0x01, 0x20, 0x3f, 0x00]] := by decide
theorem test_send_eepromReadat : sent (.eepromReadat 4 (body61 [0x3c])) = [[0xa0, 0x04, 0x23, 0x3c, 0x00]] := by decide
theorem test_send_eepromAuxread1 : sent (.eepromAuxread1 1 (body61 [0x4e])) = [[0xa0, 0x01, 0x11, 0x4e, 0x00]] := by decide
theorem test_send_eepromAuxread2 : sent (.eepromAuxread2 1 (body61 [0xee])) = [[0xa0, 0x01, 0x71, 0xee, 0x00]] := by decide
theorem test_send_stateRead : sent (.stateRead 4 (body61 [0x30, 0x00])) = [[0xde, 0x04, 0x31, 0x30, 0x00]] := by decide
theorem test_send_stateWrite1 : sent (.stateWrite1 1 (body61 [0xf1])) = [[0xde, 0x01, 0x30, 0xf1, 0x00]] := by decide
theorem test_send_dptxCtrl1 : sent (.dptxCtrl1 2 (body61 [0x01, 0xdd])) = [[0x10, 0x02, 0x10, 0x01, 0xdd]] := by decide
theorem test_send_dptxCtrl2 : sent (.dptxCtrl2 1 (body61 [0x7f])) = [[0x10, 0x01, 0x70, 0x7f, 0x00]] := by decide
theorem test_send_dptxData1 : sent (.dptxData1 1 (body61 [0xde])) = [[0x10, 0x01, 0x11, 0xde, 0x00]] := by decide
theorem test_send_dptxData2 : sent (.dptxData2 1 (body61 [0x7e])) = [[0x10, 0x01, 0x71, 0x7e, 0x00]] := by decide

-- The window, the steps, the host's side

/-- Register-window vectors after reset: the timeout is little-endian. -/
theorem test_window_timeout :
    State.reset.windowRead 0x008 = 0xfa ∧ State.reset.windowRead 0x009 = 0x00 ∧ State.reset.windowRead 0x020 = 0x00 := by
  decide
/-- `MemWrite(0x009, 1, 0x01)` gives 506. -/
theorem test_window_timeout_write : (after (hostWrite 0x009 0x01 State.reset)).timeoutMs = 506 := by decide
/-- The last byte of `REQ_PAYLOAD`, and the reserved location behind it. -/
theorem test_window_payload_end :
    (after (hostWrite 0x07b 0x99 State.reset)).reqPayload[59] = 0x99 ∧ after (hostWrite 0x07c 0x99 State.reset) = State.reset := by
  decide
/-- T14: a write while a transaction is in flight. -/
theorem test_window_busy :
    (after (hostWrite 0x004 0x55 (sending []))).reqType = 0x00 ∧ (after (hostWrite 0x004 0x55 (sending []))).statusByte = 0x09 := by
  decide
/-- T17: `CHKERR` cleared, `DONE` kept. -/
theorem test_status_write_one_to_clear :
    (after (hostWrite 0x001 0x04 { State.reset with done := true, chkerr := true })).statusByte = 0x02 := by decide
/-- E19: a word with a reserved bit. -/
theorem test_bad_operation_word :
    (after (hostWrite 0x000 0x81 State.reset)).result = .badRequest ∧ (after (hostWrite 0x000 0x81 State.reset)).cause = .badOp := by
  decide
/-- T4 and T13: an expiry with the timer at 0. -/
theorem test_expiry : (after (step { awaiting with timer := 0 })).cause = .timeout := by decide
/-- T8: an empty delivery. -/
theorem test_empty_delivery :
    (after (step { awaiting with rxq := [[]] })).cause = .emptyDelivery ∧ (after (step { awaiting with rxq := [[]] })).rxCount = 0 := by
  decide
/-- R191: a waiting delivery wins over an expired timer. -/
theorem test_delivery_wins :
    (after (performMove (.engine .expire) { waiting [0xa0, 0x01, 0x82, 0xdd] with timer := 0 })).phase = .wait := by decide
/-- T22: reset in `WAIT` keeps what the transport holds. -/
theorem test_reset_keeps_transport :
    (after (performMove (.reset false) (waiting [0xa0, 0x01, 0x82, 0xdd]))).rxq.length = 1 ∧
    (after (performMove (.reset false) (waiting [0xa0, 0x01, 0x82, 0xdd]))).phase = .idle := by
  decide
/-- A stored table word is what the next step runs (log entry 6). -/
theorem test_fetch_word :
    (after (step (State.reset.withFetchWord 8 0x02))).result = .encoded ∧
    (after (step (State.reset.withFetchWord 24 0xa00202))).txlog.length = 1 ∧
    (after (step (State.reset.withFetchWord 24 0x554001))).cause = .lenField := by
  decide
/-- 95_test_vectors.md section 5: 150 at 60, 65 at 32, 61 at 60. -/
theorem test_chunks :
    chunkSizes 150 60 = [60, 60, 30] ∧ chunkSizes 65 32 = [32, 32, 1] ∧ chunkSizes 61 60 = [60, 1] := by decide
/-- The second inline-offset read of 128 bytes: length 60 at offset 60. -/
theorem test_inline_read :
    (inlineRead 0xa0 0x23 128 0 60).map (·.request.payload) = [[0x3c, 0, 0], [0x3c, 0x3c, 0], [0x08, 0x78, 0]] := by decide
/-- The third writer chunk of the 65-byte buffer: offset `0x0040`, byte `c1`. -/
theorem test_writer_chunk :
    ((writeChunks 0xa0 0x20 ((List.range 65).map fun i => BitVec.ofNat 8 (3 * i + 1)) 0 32).map (·.payload)).getLast?
      = some [0x40, 0x00, 0xc1] := by
  decide
/-- R231 and R244: a read chunk of 61 bytes and a write chunk of 33 are refused. -/
theorem test_chunk_limits :
    (readBlock 0xa0 0x23 128 0 (some 61) .inlineOffset).isNone = true ∧
    (readBlock 0xa0 0x23 128 0 (some 60) .inlineOffset).isSome = true ∧
    (writeBlock 0xa0 0x20 [0xaa] 0 (some 33)).isNone = true ∧ (writeBlock 0xa0 0x20 [0xaa] 0 (some 32)).isSome = true := by
  decide
/-- R244: a write without a chunk size cuts 65 bytes into 32, 32 and 1, each with its two offset bytes. -/
theorem test_default_write :
    (writeBlock 0xa0 0x20 (List.replicate 65 0xaa) 0 none).map (List.map (·.payload.length)) = some [34, 34, 3] := by decide
/-- P2: the positioning request with its two made-up zero bytes, then reads of 60, 60 and 30. -/
theorem test_stream_read :
    (streamRead (fun _ => [0, 0]) 150 0 60).map (·.request) =
      [⟨0xa0, 0x00, [0, 0]⟩, ⟨0xa0, 0x02, [0x3c]⟩, ⟨0xa0, 0x02, [0x3c]⟩, ⟨0xa0, 0x02, [0x1e]⟩] := by decide
/-- R259: 256 bytes are five chunks. -/
theorem test_bulk_chunks : chunkSizes 256 60 = [60, 60, 60, 60, 16] := by decide
/-- R256: the selectors. -/
theorem test_output_selector : outputOf 1 = some .one ∧ outputOf 2 = some .two ∧ outputOf 0 = none ∧ outputOf 3 = none := by decide
/-- U16: a byte string of 320 bytes is not counted as 64. -/
theorem test_long_decode : (startDecode (List.replicate 320 0)).head? = some (.write 0x00e 255) := by
  rw [startDecode, List.length_replicate]
  rfl
/-- R251: a little-endian field, at the end of its block. -/
theorem test_register_field :
    decodeRegister [RegisterField.byte (size := 3) "a" 0, .word "b" 1] [0x05, 0x34, 0x12] = some [("a", 5), ("b", 0x1234)] := by
  decide
/-- P1's remark: `03 02 01` read as a firmware version, and a block of the wrong length. -/
theorem test_firmware_decoder :
    decodeFirmware [0x03, 0x02, 0x01] = some [0x01, 0x02, 0x03] ∧ decodeFirmware [0x03, 0x02] = none := by decide

-- Witnesses: for each obligation with hypotheses, values that meet all of them together, clause by clause, at the ends of the
-- ranges

theorem witness_DecodeOfEncodedInstruction :
    (Instr.req 0x00 1 0x01 (body61 [])).wf = true ∧ (Instr.req 0xff 61 0x7f (body61 [])).wf = true ∧
    (Instr.rspAck 0xff 63 0x7f (body61 [])).wf = true := by decide

theorem witness_EncodedFrameIsARequest :
    (List.replicate 60 (0xff : Byte)).length ≤ 60 ∧ documented 0xa0 0x02 = true ∧ documented 0xa0 0x7f = false := by decide

/-- An empty and a full payload: a payload byte before its end, a padding byte after the checksum. -/
theorem witness_EncodeBuildsTheFrame :
    ([] : List Byte).length ≤ 60 ∧ (List.replicate 60 (0xff : Byte)).length ≤ 60 ∧
    59 < (List.replicate 60 (0xff : Byte)).length ∧ ([] : List Byte).length + 4 ≤ 63 := by decide

theorem witness_EncodedFrameSumsToZero : (List.replicate 60 (0xff : Byte)).length ≤ 60 ∧ ([] : List Byte).length ≤ 60 := by decide

theorem witness_DecodeOfEncodedPacket : (List.replicate 60 (0xff : Byte)).length ≤ 60 ∧ ([] : List Byte).length ≤ 60 := by decide

theorem witness_EncodeIsInjective :
    ([0x3c] : List Byte).length ≤ 60 ∧
    packetEncode 0xa0 ((0x02 : BitVec 7).setWidth 8) [0x3c] = packetEncode 0xa0 ((0x02 : BitVec 7).setWidth 8) [0x3c] :=
  ⟨by decide, rfl⟩

/-- Deliveries of 0, 63 and 65 bytes; length fields 64 and 255. -/
theorem witness_IllegalShapeIsRejected :
    ([] : List Byte).length ≠ 64 ∧ (List.replicate 63 (0 : Byte)).length ≠ 64 ∧ (List.replicate 65 (0 : Byte)).length ≠ 64 ∧
    (bytes64 [0xa0, 0x40]).length = 64 ∧ 64 ≤ ((bytes64 [0xa0, 0x40]).getD 1 0).toNat ∧
    (bytes64 [0xa0, 0xff]).length = 64 ∧ 64 ≤ ((bytes64 [0xa0, 0xff]).getD 1 0).toNat := by decide

/-- Length fields 0, 62 and 63, with a sum of 0 and with another. -/
theorem witness_LengthEdgeByPolicy :
    (bytes64 []).length = 64 ∧ (bytes64 []).getD 1 0 = 0 ∧ sum8 (bytes64 []) = 0 ∧
    (bytes64 [1]).getD 1 0 = 0 ∧ sum8 (bytes64 [1]) ≠ 0 ∧
    (bytes64 [0, 62, 194]).getD 1 0 = 62 ∧ sum8 (bytes64 [0, 62, 194]) = 0 ∧
    (bytes64 [0, 63, 193]).getD 1 0 = 63 ∧ sum8 (bytes64 [0, 63, 193]) = 0 ∧ sum8 (bytes64 [0, 63]) ≠ 0 := by decide

/-- Length fields 1 and 61. -/
theorem witness_OrdinaryFrameIsDecidedByItsSum :
    (bytes64 [0xa0, 1]).length = 64 ∧ 1 ≤ ((bytes64 [0xa0, 1]).getD 1 0).toNat ∧
    (bytes64 [0xa0, 61]).length = 64 ∧ ((bytes64 [0xa0, 61]).getD 1 0).toNat ≤ 61 := by decide

/-- X1 with its length byte changed, and X7: X1 with its last byte changed. -/
theorem witness_OneChangedByteIsCaught :
    packetDecode .clamp (bytes64 [0xa0, 3, 2, 0x12, 0x34, 0x15]) = .ok ⟨0xa0, true, 2, [0x12, 0x34]⟩ ∧
    packetDecode .reject (bytes64 [0xa0, 3, 2, 0x12, 0x34, 0x15]) = .ok ⟨0xa0, true, 2, [0x12, 0x34]⟩ ∧
    (0x40 : Byte) ≠ (bytes64 [0xa0, 3, 2, 0x12, 0x34, 0x15]).getD 1 0 ∧
    (0x01 : Byte) ≠ (bytes64 [0xa0, 3, 2, 0x12, 0x34, 0x15]).getD 63 0 := by decide

/-- E18: 60 payload bytes, command `7f`. -/
theorem witness_TransactStarts :
    (asking 0xa0 0x7f 60 0).phase = .idle ∧ (asking 0xa0 0x7f 60 0).reqPlen.toNat ≤ 60 ∧
    (asking 0xa0 0x7f 60 0).reqCmd.toNat < 0x80 := by decide

theorem witness_EncodeFillsTxbuf :
    (asking 0xa0 0x00 0 0).phase = .idle ∧ (asking 0xa0 0x00 0 0).reqPlen.toNat ≤ 60 ∧
    (asking 0xa0 0x00 0 0).reqCmd.toNat < 0x80 := by decide

/-- E14 and E17: 61 bytes; E16 at 60 bytes: bit 7. -/
theorem witness_BadRequestIsRefused :
    (asking 0xa0 0x82 61 0).phase = .idle ∧ 60 < (asking 0xa0 0x82 61 0).reqPlen.toNat ∧
    (asking 0xa0 0x80 60 0).phase = .idle ∧ (asking 0xa0 0x80 60 0).reqPlen.toNat ≤ 60 ∧
    0x80 ≤ (asking 0xa0 0x80 60 0).reqCmd.toNat := by decide

/-- X1, X3 and a delivery of 2 bytes: a packet, a bad sum, a wrong size. -/
theorem witness_DecodeReportsTheHeldDelivery :
    (holding 64 [0xa0, 3, 2, 0x12, 0x34, 0x15]).phase = .idle ∧
    (bytes64 [0xa0, 3, 2, 0x12, 0x34, 0x15]).length = (holding 64 [0xa0, 3, 2, 0x12, 0x34, 0x15]).rxCount.toNat ∧
    (bytes64 [0xa0, 3, 2, 0x12, 0x34, 0x15]).take 64 = (holding 64 [0xa0, 3, 2, 0x12, 0x34, 0x15]).rxbuf.toList.take 64 ∧
    packetDecode Config.lenEdgePolicy (bytes64 [0xa0, 3, 2, 0x12, 0x34, 0x15]) = .ok ⟨0xa0, true, 2, [0x12, 0x34]⟩ ∧
    (bytes64 [0xa0, 3, 2, 0x12, 0x35, 0x15]).take 64 = (holding 64 [0xa0, 3, 2, 0x12, 0x35, 0x15]).rxbuf.toList.take 64 ∧
    packetDecode Config.lenEdgePolicy (bytes64 [0xa0, 3, 2, 0x12, 0x35, 0x15]) = .checksumError ∧
    ([0xa0, 0x01] : Delivery).length = (holding 2 [0xa0, 0x01]).rxCount.toNat ∧
    ([0xa0, 0x01] : Delivery).take 64 = (holding 2 [0xa0, 0x01]).rxbuf.toList.take 2 ∧
    packetDecode Config.lenEdgePolicy [0xa0, 0x01] = .frameLengthError .rxSize := by decide

theorem witness_OperationsAreRefusedWhileBusy : (sending []).phase ≠ .idle ∧ awaiting.phase ≠ .idle := by decide

theorem witness_ReservedOperationWord : 4 ≤ (0x04 : Byte).toNat ∧ 4 ≤ (0xff : Byte).toNat := by decide

theorem witness_RequestFrameIsSent :
    (sending []).phase = .send ∧ (Instr.req 0xa0 2 0x7f (body61 [])).port = .transmit ∧
    (Instr.eepromRead 2 (body61 [])).port = .transmit := by decide

theorem witness_FrameAtAClosedPort :
    (Instr.eepromRead 2 (body61 [])).port = .transmit ∧ State.reset.phase ≠ .send ∧ awaiting.phase ≠ .send ∧
    (Instr.rspAck 0xa0 1 2 (body61 [])).port = .receive ∧ State.reset.phase ≠ .wait ∧ (sending []).phase ≠ .wait := by decide

/-- Length fields 1 (X17 and X2) and 61, of either class, with a sum of 0. -/
theorem witness_ResponseEndsTheTransaction :
    awaiting.phase = .wait ∧ 1 ≤ (1 : BitVec 6).toNat ∧ (61 : BitVec 6).toNat ≤ 61 ∧
    sum8 (encode (.rspAck 0xa0 1 0x20 (body61 [0x3f]))) = 0 ∧ sum8 (encode (.rspNack 0xa0 1 0x02 (body61 [0xdd]))) = 0 ∧
    sum8 (encode (.rspAck 0xa0 61 0x20 (body61 [0x03]))) = 0 ∧ sum8 (encode (.rspNack 0xa0 61 0x02 (body61 [0xa1]))) = 0 := by
  decide

theorem witness_BadSumEndsTheTransaction :
    awaiting.phase = .wait ∧ 1 ≤ (1 : BitVec 6).toNat ∧ (61 : BitVec 6).toNat ≤ 61 ∧
    sum8 (encode (.rspAck 0xa0 1 0x20 (body61 [0x3e]))) ≠ 0 ∧ sum8 (encode (.rspNack 0xa0 61 0x02 (body61 [0xa2]))) ≠ 0 := by
  decide

theorem witness_LengthEdgeEndsTheTransaction :
    awaiting.phase = .wait ∧ (∀ len ∈ ([0, 62, 63] : List (BitVec 6)), len = 0 ∨ len = 62 ∨ len = 63) := by decide

theorem witness_IllegalLengthEndsTheTransaction : awaiting.phase = .wait := by decide

theorem witness_InstructionsKeepTheRequest :
    exec .nop awaiting = .next awaiting ∧ ∃ t, engineMove .expireUntimed awaiting = .next t := ⟨rfl, _, rfl⟩

/-- An instruction that writes `TXBUF`, and one that does not. -/
theorem witness_OnlyEncodingWritesTxbuf :
    (∃ t, exec .encode (asking 0xa0 0x02 1 0x3c) = .next t ∧ t.txbuf[0] = 0xa0) ∧
    exec .nop awaiting = .next awaiting :=
  ⟨⟨_, rfl, by decide⟩, rfl⟩

theorem witness_OperationWordsFrame :
    (∃ t, exec .transact (asking 0xa0 0x02 1 0x3c) = .next t) ∧ Instr.port .transact = .ctrl ∧
    (asking 0xa0 0x02 1 0x3c).phase = .idle ∧ 0x00f ≤ (0x07f : BitVec 9).toNat ∧ (0x07f : BitVec 9).toNat < 0x080 ∧
    0x140 ≤ (0x140 : BitVec 9).toNat :=
  ⟨⟨_, rfl⟩, by decide⟩

theorem witness_FramesFrame :
    (∃ t, exec (.eepromRead 2 (body61 [0x3c, 0x20])) (sending []) = .next t) ∧
    (Instr.eepromRead 2 (body61 [0x3c, 0x20])).port = .transmit ∧
    (∃ t, exec (.rspNack 0xa0 1 0x02 (body61 [0xdd])) awaiting = .next t) ∧
    (Instr.rspNack 0xa0 1 0x02 (body61 [0xdd])).port = .receive ∧ (0x0c0 : BitVec 9).toNat < 0x100 :=
  ⟨⟨_, rfl⟩, by decide, ⟨_, rfl⟩, by decide, by decide⟩

/-- The single addresses, and both ends of each range of R61. -/
theorem witness_WindowReadAfterWrite :
    State.reset.phase = .idle ∧ locate 0x004 = .reqType ∧ locate 0x006 = .reqPlen ∧ locate 0x008 = .timeoutLow ∧
    locate 0x009 = .timeoutHigh ∧ locate 0x00e = .rxCount ∧ locate 0x040 = .reqPayload 0 ∧ locate 0x07b = .reqPayload 59 ∧
    locate 0x100 = .rxbuf 0 ∧ locate 0x13f = .rxbuf 63 := by decide

/-- `SEND` and `WAIT`; the addresses are those of `witness_WindowReadAfterWrite`. -/
theorem witness_BusyWritesAreRefused :
    (sending []).phase ≠ .idle ∧ awaiting.phase ≠ .idle ∧ (0x006 : BitVec 9).toNat ≤ 0x006 ∧ 0x100 ≤ (0x100 : BitVec 9).toNat ∧
    (0x13f : BitVec 9).toNat ≤ 0x13f ∧ (0x01 : Byte) ≠ 0x00 ∧ (0xff : Byte) ≠ 0x00 := by decide

/-- Both ends of each range of R61. -/
theorem witness_ReservedLocations :
    locate 0x00f = .reserved ∧ locate 0x03f = .reserved ∧ locate 0x07c = .reserved ∧ locate 0x07f = .reserved ∧
    locate 0x0bd = .reserved ∧ locate 0x0bf = .reserved ∧ locate 0x140 = .reserved ∧ locate 0x1ff = .reserved := by decide

/-- Both ends of each range of R61. -/
theorem witness_ReadOnlyLocations :
    locate 0x002 = .result ∧ locate 0x003 = .cause ∧ locate 0x007 = .phase ∧ locate 0x00a = .rspType ∧
    locate 0x00d = .rspPlen ∧ locate 0x080 = .rspPayload 0 ∧ locate 0x0bc = .rspPayload 60 ∧ locate 0x0c0 = .txbuf 0 ∧
    locate 0x0ff = .txbuf 63 := by decide

theorem witness_SetWinsOverClear :
    (waiting [0xa0, 3, 2, 0x12, 0x35, 0x15]).phase = .wait ∧
    (waiting [0xa0, 3, 2, 0x12, 0x35, 0x15]).rxq = bytes64 [0xa0, 3, 2, 0x12, 0x35, 0x15] :: [] ∧
    packetDecode Config.lenEdgePolicy (bytes64 [0xa0, 3, 2, 0x12, 0x35, 0x15]) = .checksumError ∧
    awaiting.phase = .wait ∧ awaiting.rxq = [] ∧ ({ awaiting with timer := 0 } : State).timer = 0 :=
  ⟨rfl, rfl, by decide, rfl, rfl, rfl⟩

/-- An operation word, a frame in `TXBUF`, a delivery. -/
theorem witness_StepRunsTheDecodedInstruction :
    decode .ctrl [0x01] = .ok .transact ∧
    decode .transmit (sending [0xa0, 2, 2, 0x3c, 0x20]).txbuf.toList = .ok (.eepromRead 2 (body61 [0x3c, 0x20])) ∧
    decode .receive (bytes64 [0xa0, 1, 0x82, 0xdd]) = .ok (.rspNack 0xa0 1 2 (body61 [0xdd])) ∧
    (waiting [0xa0, 1, 0x82, 0xdd]).rxq = bytes64 [0xa0, 1, 0x82, 0xdd] :: [] ∧ (waiting [0xa0, 1, 0x82, 0xdd]).phase = .wait ∧
    (sending [0xa0, 2, 2, 0x3c, 0x20]).phase = .send := by
  decide

/-- Nothing to take; and deliveries of 0, 64 and 255 bytes, of each kind of result. -/
theorem witness_TakeStepClassifies :
    State.reset.phase ≠ .wait ∧ awaiting.rxq = [] ∧ ({ awaiting with rxq := [[]] } : State).rxq = [] :: [] ∧
    (waiting [0xa0, 3, 2, 0x12, 0x34, 0x15]).phase = .wait ∧ (bytes64 [0xa0, 3, 2, 0x12, 0x34, 0x15]).length ≤ 255 ∧
    packetDecode Config.lenEdgePolicy (bytes64 [0xa0, 3, 2, 0x12, 0x34, 0x15]) = .ok ⟨0xa0, true, 2, [0x12, 0x34]⟩ ∧
    packetDecode Config.lenEdgePolicy (bytes64 [0xa0, 3, 2, 0x12, 0x35, 0x15]) = .checksumError ∧
    packetDecode Config.lenEdgePolicy (bytes64 [0xa0, 0x40]) = .frameLengthError .lenField ∧
    (List.replicate 255 (0x11 : Byte)).length ≤ 255 ∧
    packetDecode Config.lenEdgePolicy (List.replicate 255 0x11) = .frameLengthError .rxSize :=
  ⟨by decide, rfl, rfl, rfl, by decide, by decide, by decide, by decide,
    Nat.le_of_eq List.length_replicate, if_pos (by rw [List.length_replicate]; decide)⟩

/-- A state with a transaction in flight (T3, on the zero request) that meets the invariant, and its next step: the timer runs. -/
theorem witness_StepKeepsTheInvariant :
    State.Inv { awaiting with txbuf := awaiting.requestFrame } ∧
    ∃ t, step { awaiting with txbuf := awaiting.requestFrame } = .next t ∧ t.timer = 249 :=
  ⟨⟨⟨rfl, by simp [awaiting, State.reset]⟩,
    fun _ => ⟨rfl, rfl, rfl, ⟨rfl, rfl, rfl, rfl, rfl⟩, ⟨rfl, rfl⟩, rfl, rfl⟩,
    ⟨by decide, by decide, by decide, by simp [awaiting, State.reset], by simp [awaiting, State.reset],
      by simp [awaiting, State.reset]⟩,
    fun _ => by decide⟩, _, rfl, rfl⟩

/-- Each of the movements of `PHASE`, those from `WAIT` by each of the three moves. -/
theorem witness_PhaseMovesByTheTable :
    (∃ t, step { asking 0xa0 0x02 1 0x3c with inputs := [.write 0x000 0x01] } = .next t ∧ t.phase ≠ .idle) ∧
    (∃ t, step { sending [0xa0, 2, 2, 0x3c, 0x20] with inputs := [.engine .send] } = .next t ∧ t.phase ≠ .send) ∧
    (∃ t, step { awaiting with timer := 0 } = .next t ∧ t.phase ≠ .wait) ∧
    (∃ t, step { awaiting with rxq := [[]] } = .next t ∧ t.phase ≠ .wait) ∧
    (∃ t, step { awaiting with inputs := [.engine .expireUntimed] } = .next t ∧ t.phase ≠ .wait) ∧
    (∃ t, step { sending [] with inputs := [.reset true] } = .next t ∧ t.phase ≠ .send) :=
  ⟨⟨_, rfl, by decide⟩, ⟨_, rfl, by decide⟩, ⟨_, rfl, by decide⟩, ⟨_, rfl, by decide⟩, ⟨_, rfl, by decide⟩, _, rfl, by decide⟩

/-- A state in `SEND` with the zero request's frame offered meets the invariant, and the transport takes the frame. -/
theorem witness_SentFrameIsTheRequest :
    State.Inv { sending [] with txbuf := (sending []).requestFrame, inputs := [.engine .send] } ∧
    ∃ t, step { sending [] with txbuf := (sending []).requestFrame, inputs := [.engine .send] } = .next t ∧ t.txlog.length = 1 :=
  ⟨⟨⟨rfl, by simp [sending, State.reset]⟩,
    fun _ => ⟨rfl, rfl, rfl, ⟨rfl, rfl, rfl, rfl, rfl⟩, ⟨rfl, rfl⟩, rfl, rfl⟩,
    ⟨by decide, by decide, by decide, by simp [sending, State.reset], by simp [sending, State.reset],
      by simp [sending, State.reset]⟩,
    by simp [State.timerInv, sending]⟩, _, rfl, rfl⟩

theorem witness_DeliveriesLeaveInOrder :
    (∃ t, step { State.reset with inputs := [.deliver [0x11]] } = .next t ∧ t.rxq = [[0x11]]) ∧
    ∃ t, step { awaiting with rxq := [[], [0x11]] } = .next t ∧ t.rxq = [[0x11]] :=
  ⟨⟨_, rfl, rfl⟩, _, rfl, rfl⟩

/-- A write to `STATUS`, the operation `NOP`, and a delivery, each in `IDLE`. -/
theorem witness_ResultsStayUntilTheNextOperation :
    (∃ t, step { State.reset with inputs := [.write 0x001 0x02] } = .next t) ∧
    ((locate 0x001 = .ctrl → (0x02 : Byte) = 0x00) ∧ locate 0x001 ≠ .rxCount ∧ ∀ i, locate 0x001 ≠ .rxbuf i) ∧
    (∃ t, step { State.reset with inputs := [.write 0x000 0x00] } = .next t) ∧
    ((locate 0x000 = .ctrl → (0x00 : Byte) = 0x00) ∧ locate 0x000 ≠ .rxCount ∧ ∀ i, locate 0x000 ≠ .rxbuf i) ∧
    (∃ t, step { State.reset with inputs := [.deliver []] } = .next t) ∧
    ∀ taken, [Move.deliver []].head? ≠ some (.reset taken) :=
  ⟨⟨_, rfl⟩, by decide, ⟨_, rfl⟩, by decide, ⟨_, rfl⟩, by decide⟩

/-- A host write to `STATUS` that clears `DONE` only, with both sticky flags set. -/
theorem witness_StickyFlagsStay :
    (∃ t, step { State.reset with chkerr := true, ovr := true, inputs := [.write 0x001 0x02] } = .next t) ∧
    (∀ taken, [Move.write 0x001 0x02].head? ≠ some (.reset taken)) ∧
    (0x02 : Byte).getLsbD 2 = false ∧ (0x02 : Byte).getLsbD 3 = false :=
  ⟨⟨_, rfl⟩, by decide⟩

theorem witness_SendHangsWithoutTheTransport :
    (sending []).phase = .send ∧ Move.engine .tick ≠ .engine .send ∧ (∀ v, Move.engine .tick ≠ .statusWriteWith v .send) ∧
    ∀ taken, Move.engine .tick ≠ .reset taken :=
  ⟨rfl, by decide, (fun _ h => Move.noConfusion h), by decide⟩

theorem witness_WaitEndsWithinTheTimer :
    awaiting.phase = .wait ∧ awaiting.inputs = [] ∧ (waiting [0xa0]).phase = .wait ∧ (waiting [0xa0]).inputs = [] := by decide

/-- The state before the four steps of T1. -/
theorem witness_TransactionIsTheBlockingCall :
    ∃ s : State, s.phase = .idle ∧ s.rxq = [] ∧ s.reqPlen.toNat ≤ 60 ∧ s.reqCmd.toNat < 0x80 ∧
      (bytes64 [0xa0, 3, 2, 0x12, 0x34, 0x15]).length ≤ 255 ∧
      s.inputs = [.write 0x000 0x01, .engine .send, .deliver (bytes64 [0xa0, 3, 2, 0x12, 0x34, 0x15]), .engine .take] ++ [] :=
  ⟨{ asking 0xa0 0x02 1 0x3c with
      inputs := [.write 0x000 0x01, .engine .send, .deliver (bytes64 [0xa0, 3, 2, 0x12, 0x34, 0x15]), .engine .take] },
    rfl, rfl, by decide, by decide, by decide, rfl⟩

theorem witness_EchoedRequestIsAcknowledged :
    ∃ s : State, s.phase = .idle ∧ s.rxq = [] ∧ s.reqPlen.toNat ≤ 60 ∧ s.reqCmd.toNat < 0x80 ∧
      s.inputs = [.write 0x000 0x01, .engine .send,
        .deliver (packetEncode s.reqType s.reqCmd (s.reqPayload.toList.take s.reqPlen.toNat)).toList, .engine .take] ++ [] :=
  ⟨{ asking 0xa0 0x02 1 0x3c with
      inputs := [.write 0x000 0x01, .engine .send, .deliver (asking 0xa0 0x02 1 0x3c).requestFrame.toList, .engine .take] },
    rfl, rfl, by decide, by decide, rfl⟩

theorem witness_ChunksCoverTheTransfer : 0 < 150 ∧ 0 < 60 := by decide

/-- 61 bytes at chunk size 60: a payload of 60 and one of 1. -/
theorem witness_ReadReturnsTheConcatenation :
    0 < 61 ∧ 0 < 60 ∧ [List.replicate 60 (0 : Byte), [0x3c]].map List.length = chunkSizes 61 60 := by decide

theorem witness_ReadAbortsAtTheFirstFailure :
    (TxResult.noResponse .timeout).isAck = false ∧ (TxResult.nack 0x02 []).isAck = false := by decide

/-- Nine negative polls, ten, and nine after one that went unanswered. -/
theorem witness_TenNegativePollsEndTheWrite :
    (∀ r ∈ List.replicate 9 (TxResult.nack 0x20 []), (∃ c p, r = .nack c p) ∨ ∃ c, r = .noResponse c) ∧
    (List.replicate 9 (TxResult.nack 0x20 [])).length < 10 ∧
    (∀ r ∈ List.replicate 10 (TxResult.nack 0x20 []), (∃ c p, r = .nack c p) ∨ ∃ c, r = .noResponse c) ∧
    10 ≤ (List.replicate 10 (TxResult.nack 0x20 [])).length ∧
    (∀ r ∈ List.replicate 10 (TxResult.nack 0x20 []), r.isNack = true) ∧
    ∀ r ∈ TxResult.noResponse .timeout :: List.replicate 9 (TxResult.nack 0x20 []),
      (∃ c p, r = .nack c p) ∨ ∃ c, r = .noResponse c :=
  ⟨fun _ h => .inl ⟨_, _, List.eq_of_mem_replicate h⟩, by decide, fun _ h => .inl ⟨_, _, List.eq_of_mem_replicate h⟩, by decide,
    by decide, fun _ h => (List.mem_cons.mp h).elim (fun h => .inr ⟨_, h⟩) fun h => .inl ⟨_, _, List.eq_of_mem_replicate h⟩⟩

/-- A plan with empty layouts, for the flow of either output. -/
def samplePlan (o : Output) : EdidPlan := ⟨o, [], [0x01], [], [], 0xa0, 0x23, 0, .inlineOffset⟩

/-- A selector of each output; a probe that gives one byte, none, or no acknowledge; a bulk read that `readBlock` accepts and one
that it refuses; results of either kind. -/
theorem witness_EdidFlowAlwaysRestores :
    (∃ plan st, startEdid 1 samplePlan = some (plan, st)) ∧ (∃ plan st, startEdid 2 samplePlan = some (plan, st)) ∧
    (∀ v, TxResult.ack [] ≠ .ack [v]) ∧ (∀ v, TxResult.noResponse .timeout ≠ .ack [v]) ∧
    (TxResult.ack []).isAck = true ∧ (TxResult.noResponse .timeout).isAck = false ∧
    (∃ items, (samplePlan .one).bulk = some items) ∧
    EdidPlan.bulk { samplePlan .one with bulkMode := .positionThenStream fun _ => [] } = none ∧
    ReadStatus.running [] [lengthOnlyRead 60] = .running [] [lengthOnlyRead 60] :=
  ⟨⟨_, _, rfl⟩, ⟨_, _, rfl⟩, by decide, by decide, rfl, rfl, ⟨_, rfl⟩, rfl, rfl⟩

end Sys2Proof.Tests
end

section
/-! PROOFS. The family of the engine's state: what the operations on the state keep (R26, R47), the two sticky flags of
`STATUS` (R36), and the obligations about them. -/

namespace Sys2Proof.Machine

-- What the shared operations leave as it was

/-- What `DECODE` reports writes the response registers, `RESULT`, `CAUSE`, `DONE` and `CHKERR` only (R160 to R163). -/
@[simp] theorem State.reportDecoded_frame (r : DecodeResult) (s : State) :
    (s.reportDecoded r).reqType = s.reqType ∧ (s.reportDecoded r).reqCmd = s.reqCmd ∧
    (s.reportDecoded r).reqPlen = s.reqPlen ∧ (s.reportDecoded r).reqPayload = s.reqPayload ∧
    (s.reportDecoded r).timeoutMs = s.timeoutMs ∧ (s.reportDecoded r).ovr = s.ovr ∧
    (s.reportDecoded r).txbuf = s.txbuf ∧ (s.reportDecoded r).rxbuf = s.rxbuf ∧
    (s.reportDecoded r).rxCount = s.rxCount ∧ (s.reportDecoded r).phase = s.phase ∧
    (s.reportDecoded r).timer = s.timer ∧ (s.reportDecoded r).txlog = s.txlog ∧
    (s.reportDecoded r).rxq = s.rxq ∧ (s.reportDecoded r).hostData = s.hostData ∧
    (s.reportDecoded r).inputs = s.inputs := by
  obtain ⟨p, -, h⟩ | ⟨-, h⟩ | ⟨e, -, h⟩ := s.reportDecoded_cases r <;> simp [h]

/-- A taken delivery writes the delivery record, the response registers, `RESULT`, `CAUSE`, `DONE`, `CHKERR` and `PHASE` only
(R184 to R186). -/
@[simp] theorem State.takeDelivery_frame (d : Delivery) (s : State) :
    (s.takeDelivery d).reqType = s.reqType ∧ (s.takeDelivery d).reqCmd = s.reqCmd ∧
    (s.takeDelivery d).reqPlen = s.reqPlen ∧ (s.takeDelivery d).reqPayload = s.reqPayload ∧
    (s.takeDelivery d).timeoutMs = s.timeoutMs ∧ (s.takeDelivery d).ovr = s.ovr ∧
    (s.takeDelivery d).txbuf = s.txbuf ∧ (s.takeDelivery d).timer = s.timer ∧
    (s.takeDelivery d).txlog = s.txlog ∧ (s.takeDelivery d).rxq = s.rxq ∧
    (s.takeDelivery d).hostData = s.hostData ∧ (s.takeDelivery d).inputs = s.inputs := by
  obtain ⟨p, -, h⟩ | ⟨-, h⟩ | ⟨e, -, -, h⟩ | ⟨-, h⟩ := s.takeDelivery_cases d <;> simp [h]

/-- What `DECODE` reports can set `CHKERR` and never clears it (R37). -/
theorem State.reportDecoded_chkerr {s : State} (h : s.chkerr = true) (r : DecodeResult) :
    (s.reportDecoded r).chkerr = true := by
  obtain ⟨p, -, hr⟩ | ⟨-, hr⟩ | ⟨e, -, hr⟩ := s.reportDecoded_cases r <;> simp [hr, h]

/-- A taken delivery can set `CHKERR` and never clears it (R37). -/
theorem State.takeDelivery_chkerr {s : State} (h : s.chkerr = true) (d : Delivery) :
    (s.takeDelivery d).chkerr = true := by
  obtain ⟨p, -, ht⟩ | ⟨-, ht⟩ | ⟨e, -, -, ht⟩ | ⟨-, ht⟩ := s.takeDelivery_cases d <;> simp [ht, h]

/-- A host write to a register reaches neither the flags of `STATUS` nor the transport. -/
@[simp] theorem State.storeLocation_frame (l : Location) (v : Byte) (s : State) :
    (s.storeLocation l v).chkerr = s.chkerr ∧ (s.storeLocation l v).ovr = s.ovr ∧
    (s.storeLocation l v).rxq = s.rxq := by
  cases l <;> simp [State.storeLocation]

-- The request registers (R26, R27)

/-- The request registers and the timeout of `t` are those of `s`. -/
def State.SameRequest (s t : State) : Prop :=
  t.reqType = s.reqType ∧ t.reqCmd = s.reqCmd ∧ t.reqPlen = s.reqPlen ∧ t.reqPayload = s.reqPayload ∧
    t.timeoutMs = s.timeoutMs

theorem exec_sameRequest {i : Instr} {s t : State} (h : exec i s = .next t) : s.SameRequest t := by
  unfold State.SameRequest
  obtain ⟨-, rfl⟩ | ⟨-, -, rfl⟩ | ⟨-, -, -, rfl⟩ | ⟨-, -, -, rfl⟩ | ⟨-, -, c, -, rfl⟩ | ⟨-, -, rfl⟩ | ⟨-, -, rfl⟩ |
    ⟨-, -, rfl⟩ | ⟨-, -, rfl⟩ | ⟨-, -, rfl⟩ := exec_cases h <;> simp

theorem engineMove_sameRequest {m : EngineMove} {s t : State} (h : engineMove m s = .next t) : s.SameRequest t := by
  unfold State.SameRequest
  obtain rfl | ⟨-, -, rfl⟩ | ⟨-, -, d, ds, -, rfl⟩ | ⟨-, -, -, rfl⟩ | ⟨-, -, -, rfl⟩ := engineMove_next h <;> simp

/-- Settles O26: no instruction and no engine step writes a request register. -/
theorem instructionsKeepTheRequest : Obligations.InstructionsKeepTheRequest := by
  rintro s t (⟨i, h⟩ | ⟨m, h⟩)
  · exact exec_sameRequest h
  · exact engineMove_sameRequest h

-- `RXQ` (R47, R193, R296)

theorem writeCtrl_rxq {v : Byte} {s t : State} (h : writeCtrl v s = .next t) : t.rxq = s.rxq := by
  obtain ⟨-, rfl⟩ | ⟨-, -, rfl⟩ | ⟨-, -, -, rfl⟩ | ⟨-, -, -, rfl⟩ | ⟨-, -, c, -, rfl⟩ | ⟨-, -, rfl⟩ | ⟨-, -, rfl⟩ :=
    writeCtrl_next h <;> simp

/-- The host does not reach `RXQ`. -/
theorem hostWrite_rxq {a : BitVec 9} {v : Byte} {s t : State} (h : hostWrite a v s = .next t) : t.rxq = s.rxq := by
  obtain ⟨-, hw⟩ | ⟨-, rfl⟩ | ⟨-, -, rfl⟩ | ⟨-, -, rfl⟩ | rfl := hostWrite_next h
  · exact writeCtrl_rxq hw
  all_goals simp

/-- Of the engine's steps only the take step reaches `RXQ`: in `WAIT` its head leaves it (R184). -/
theorem engineMove_rxq {m : EngineMove} {s t : State} (h : engineMove m s = .next t) :
    t.rxq = s.rxq ∨ (s.phase = .wait ∧ ∃ d, s.rxq = d :: t.rxq) := by
  obtain rfl | ⟨-, -, rfl⟩ | ⟨-, hw, d, ds, hq, rfl⟩ | ⟨-, -, -, rfl⟩ | ⟨-, -, -, rfl⟩ := engineMove_next h
  · exact .inl rfl
  · exact .inl rfl
  · exact .inr ⟨hw, d, by simpa using hq⟩
  · exact .inl rfl
  · exact .inl rfl

theorem performMove_rxq {m : Move} {s t : State} (h : performMove m s = .next t) :
    t.rxq = s.rxq ∨ (∃ d, t.rxq = s.rxq ++ [d]) ∨ (s.phase = .wait ∧ ∃ d, s.rxq = d :: t.rxq) := by
  obtain rfl | ⟨a, -, rfl⟩ | ⟨a, v, -, hw⟩ | ⟨e, -, he⟩ | ⟨v, e, -, he⟩ | ⟨d, -, rfl⟩ | ⟨taken, -, rfl⟩ :=
    performMove_next h
  · exact .inl rfl
  · exact .inl rfl
  · exact .inl (hostWrite_rxq hw)
  · exact (engineMove_rxq he).imp_right .inr
  · exact (engineMove_rxq he).imp_right .inr
  · exact .inr (.inl ⟨d, rfl⟩)
  · exact .inl rfl

/-- Settles O42: a delivery is the queue's update alone. -/
theorem deliveryOnlyQueues : Obligations.DeliveryOnlyQueues :=
  fun _ _ => rfl

/-- Settles O49: what a move does to the queue, for the pending move and for the quiet one. -/
theorem deliveriesLeaveInOrder : Obligations.DeliveriesLeaveInOrder := by
  intro s t h
  obtain ⟨m, ms, -, hm⟩ | ⟨-, hm⟩ := step_next h
  · exact performMove_rxq (s := { s with inputs := ms }) hm
  · exact performMove_rxq hm

-- `STATUS` bit by bit (R36)

@[simp] theorem State.windowRead_status (s : State) : s.windowRead 0x001 = s.statusByte := rfl

/-- The bits of `STATUS` from bit 0 up; those above bit 3 read 0. -/
theorem State.statusByte_getLsbD (s : State) (k : Nat) :
    s.statusByte.getLsbD k = [s.busy, s.done, s.chkerr, s.ovr].getD k false := by
  have happend : s.statusByte.getLsbD k = BitVec.getLsbD (w := 4 + 1 + 1 + 1 + 1)
      (0#4 ++ BitVec.ofBool s.ovr ++ BitVec.ofBool s.chkerr ++ BitVec.ofBool s.done ++ BitVec.ofBool s.busy) k := rfl
  simp only [happend, BitVec.getLsbD_append, BitVec.getLsbD_ofBool]
  rcases k with _ | _ | _ | _ | k <;> simp

@[simp] theorem State.writeStatus_busy (v : Byte) (s : State) : (s.writeStatus v).busy = s.busy := rfl

/-- A write to `STATUS` clears, in the byte that is read, the bits 3:1 that are 1 in the written byte. -/
theorem State.statusByte_writeStatus (v : Byte) (s : State) :
    (s.writeStatus v).statusByte = s.statusByte &&& ~~~(v &&& 0x0e) := by
  apply BitVec.eq_of_getLsbD_eq
  intro k hk
  simp only [BitVec.getLsbD_and, BitVec.getLsbD_not, State.statusByte_getLsbD]
  match k with
  | 0 => simp
  | 1 => simp
  | 2 => simp
  | 3 => simp
  | n + 4 => simp

/-- Settles O35: the five groups of bits, and the write as one update of the three flags. -/
theorem statusReadsAndClears : Obligations.StatusReadsAndClears := by
  intro s v
  have hbit := s.statusByte_getLsbD
  refine ⟨?_, hbit 1, hbit 2, hbit 3, fun k hk => ?_, rfl, s.statusByte_writeStatus v⟩
  · rw [State.windowRead_status, hbit, ← s.busy_eq_true]
    rfl
  · rw [State.windowRead_status, hbit, List.getD_eq_default _ _ hk]

-- The sticky flags (R36, R286)

/-- Each of `CHKERR` and `OVR` that is set in `s` is set in `t`. -/
def State.StickyKept (s t : State) : Prop :=
  (s.chkerr = true → t.chkerr = true) ∧ (s.ovr = true → t.ovr = true)

theorem State.StickyKept.of_eq {s t : State} (hc : t.chkerr = s.chkerr) (ho : t.ovr = s.ovr) : s.StickyKept t :=
  ⟨hc.trans, ho.trans⟩

theorem State.stickyKept_refuseBusy (s : State) : s.StickyKept s.refuseBusy :=
  ⟨id, fun _ => rfl⟩

theorem writeCtrl_stickyKept {v : Byte} {s t : State} (h : writeCtrl v s = .next t) : s.StickyKept t := by
  obtain ⟨-, rfl⟩ | ⟨-, -, rfl⟩ | ⟨-, -, -, rfl⟩ | ⟨-, -, -, rfl⟩ | ⟨-, -, c, -, rfl⟩ | ⟨-, -, rfl⟩ | ⟨-, -, rfl⟩ :=
    writeCtrl_next h
  · exact .of_eq rfl rfl
  · exact s.stickyKept_refuseBusy
  · exact .of_eq rfl rfl
  · exact .of_eq rfl rfl
  · exact .of_eq rfl rfl
  · exact ⟨fun hc => State.reportDecoded_chkerr (s := s.clearResponse) hc _, by simp⟩
  · exact .of_eq rfl rfl

theorem engineMove_stickyKept {m : EngineMove} {s t : State} (h : engineMove m s = .next t) : s.StickyKept t := by
  obtain rfl | ⟨-, -, rfl⟩ | ⟨-, -, d, ds, -, rfl⟩ | ⟨-, -, -, rfl⟩ | ⟨-, -, -, rfl⟩ := engineMove_next h
  · exact .of_eq rfl rfl
  · exact .of_eq rfl rfl
  · exact ⟨fun hc => State.takeDelivery_chkerr (s := { s with rxq := ds }) hc d, by simp⟩
  · exact .of_eq rfl rfl
  · exact .of_eq rfl rfl

theorem eq_status_address {a : BitVec 9} (h : locate a = .status) : a = 0x001 :=
  locate_injective (b := 0x001) h (by rw [h]; decide)

/-- A host write keeps the sticky flags, unless it is one to `STATUS`. -/
theorem hostWrite_stickyKept {a : BitVec 9} {v : Byte} {s t : State} (h : hostWrite a v s = .next t) :
    s.StickyKept t ∨ (a = 0x001 ∧ t = s.writeStatus v) := by
  obtain ⟨-, hw⟩ | ⟨ha, rfl⟩ | ⟨-, -, rfl⟩ | ⟨-, -, rfl⟩ | rfl := hostWrite_next h
  · exact .inl (writeCtrl_stickyKept hw)
  · exact .inr ⟨eq_status_address ha, rfl⟩
  · exact .inl s.stickyKept_refuseBusy
  · exact .inl (.of_eq (by simp) (by simp))
  · exact .inl (.of_eq rfl rfl)

/-- The move writes `v` to `STATUS`, alone or in the same step as an engine step (R36, R76). -/
def Move.WritesStatus (m : Move) (v : Byte) : Prop :=
  m = .write 0x001 v ∨ ∃ e, m = .statusWriteWith v e

/-- A move other than reset keeps the sticky flags that its write to `STATUS`, if it is one, leaves. -/
theorem performMove_stickyKept {m : Move} {s t : State} (h : performMove m s = .next t)
    (hr : ∀ taken, m ≠ .reset taken) :
    s.StickyKept t ∨ ∃ v, m.WritesStatus v ∧ (s.writeStatus v).StickyKept t := by
  obtain rfl | ⟨a, -, rfl⟩ | ⟨a, v, rfl, hw⟩ | ⟨e, -, he⟩ | ⟨v, e, rfl, he⟩ | ⟨d, -, rfl⟩ | ⟨taken, rfl, -⟩ :=
    performMove_next h
  · exact .inl (.of_eq rfl rfl)
  · exact .inl (.of_eq rfl rfl)
  · obtain hk | ⟨rfl, rfl⟩ := hostWrite_stickyKept hw
    · exact .inl hk
    · exact .inr ⟨v, .inl rfl, .of_eq rfl rfl⟩
  · exact .inl (engineMove_stickyKept he)
  · exact .inr ⟨v, .inr ⟨e, rfl⟩, engineMove_stickyKept he⟩
  · exact .inl (.of_eq rfl rfl)
  · exact absurd rfl (hr taken)

/-- The quiet move is neither a reset nor a write to `STATUS`. -/
theorem quietMove_stickyKept {s t : State} (h : performMove (quietMove s) s = .next t) : s.StickyKept t := by
  obtain ⟨-, hq⟩ | ⟨-, e, hq⟩ := quietMove_cases s <;> rw [hq] at h
  · cases h
    exact .of_eq rfl rfl
  · exact engineMove_stickyKept h

/-- A step whose pending move is no reset keeps the sticky flags that this move's write to `STATUS`, if it is one, leaves. -/
theorem step_stickyKept {s t : State} (h : step s = .next t) (hr : ∀ taken, s.inputs.head? ≠ some (.reset taken)) :
    s.StickyKept t ∨ ∃ m v, s.inputs.head? = some m ∧ m.WritesStatus v ∧ (s.writeStatus v).StickyKept t := by
  obtain ⟨m, ms, hi, hm⟩ | ⟨-, hm⟩ := step_next h
  · have hhead : s.inputs.head? = some m := by simp [hi]
    obtain hk | ⟨v, hv, hk⟩ := performMove_stickyKept hm fun taken heq => hr taken (by rw [hhead, heq])
    · exact .inl hk
    · exact .inr ⟨m, v, hhead, hv, hk⟩
  · exact .inl (quietMove_stickyKept hm)

/-- Settles O51: a step keeps the flags that a write to `STATUS` leaves, and one with a 0 at a flag's bit leaves it. -/
theorem stickyFlagsStay : Obligations.StickyFlagsStay := by
  intro s t h hr
  obtain ⟨hc, ho⟩ | ⟨m, v, hhead, hv, hc, ho⟩ := step_stickyKept h hr
  · exact ⟨fun hs _ => hc hs, fun hs _ => ho hs⟩
  · have hm : ∃ e, s.inputs.head? = some (.write 0x001 v) ∨ s.inputs.head? = some (.statusWriteWith v e) := by
      obtain rfl | ⟨e, rfl⟩ := hv
      · exact ⟨.tick, .inl hhead⟩
      · exact ⟨e, .inr hhead⟩
    obtain ⟨e, hm⟩ := hm
    exact ⟨fun hs hbit => hc (by rw [State.writeStatus_chkerr, hs, hbit v e hm]; rfl),
      fun hs hbit => ho (by rw [State.writeStatus_ovr, hs, hbit v e hm]; rfl)⟩

-- Reset (R48)

theorem reset_reportInv : State.reset.reportInv :=
  ⟨rfl, nofun⟩

theorem reset_flightInv : State.reset.flightInv :=
  fun h => absurd rfl h

theorem reset_responseClear : State.reset.responseClear :=
  ⟨rfl, rfl, rfl, rfl, rfl⟩

theorem reset_responseInv : State.reset.responseInv :=
  ⟨by decide, fun h => absurd h (by decide), by simp [State.reset], nofun, nofun,
    fun _ => reset_responseClear⟩

theorem reset_timerInv : State.reset.timerInv :=
  nofun

/-- Settles O46: part by part of the invariant. -/
theorem resetMeetsTheInvariant : Obligations.ResetMeetsTheInvariant :=
  ⟨reset_reportInv, reset_flightInv, reset_responseInv, reset_timerInv⟩

end Sys2Proof.Machine
end

section
/-! PROOFS. The family of the register window (20_memory.md): what stands at each address of R61, what a host write does there in
`IDLE` and while busy (R68, R72, R73), what a move appends to `TXLOG` (R77), and the obligations about them. -/

namespace Sys2Proof.Machine

-- The map of the window, range by range (R61)

theorem locate_ofNat {n : Nat} (h : n < 512) : locate (BitVec.ofNat 9 n) = locationAt n := by
  simp [locate, Nat.mod_eq_of_lt h]

theorem locationAt_reqPayload {i : Nat} (h : i < 60) : locationAt (0x040 + i) = .reqPayload ⟨i, h⟩ := by
  rw [locationAt, if_neg (by omega), dif_pos (by omega)]
  simp

theorem locationAt_rspPayload {i : Nat} (h : i < 61) : locationAt (0x080 + i) = .rspPayload ⟨i, h⟩ := by
  rw [locationAt, if_neg (by omega), dif_neg (by omega), if_neg (by omega), dif_pos (by omega)]
  simp

theorem locationAt_txbuf {i : Nat} (h : i < 64) : locationAt (0x0c0 + i) = .txbuf ⟨i, h⟩ := by
  rw [locationAt, if_neg (by omega), dif_neg (by omega), if_neg (by omega), dif_neg (by omega), if_neg (by omega),
    dif_pos (by omega)]
  simp

theorem locationAt_rxbuf {i : Nat} (h : i < 64) : locationAt (0x100 + i) = .rxbuf ⟨i, h⟩ := by
  rw [locationAt, if_neg (by omega), dif_neg (by omega), if_neg (by omega), dif_neg (by omega), if_neg (by omega),
    dif_neg (by omega), dif_pos (by omega)]
  simp

theorem controlLocation_reserved {a : Nat} (h : 0x00e < a) : controlLocation a = .reserved := by
  unfold controlLocation
  split <;> simp at h ⊢

/-- The four reserved ranges of R61. -/
theorem locate_reserved {a : BitVec 9}
    (h : (0x00f ≤ a.toNat ∧ a.toNat ≤ 0x03f) ∨ (0x07c ≤ a.toNat ∧ a.toNat ≤ 0x07f) ∨
      (0x0bd ≤ a.toNat ∧ a.toNat ≤ 0x0bf) ∨ 0x140 ≤ a.toNat) :
    locate a = .reserved := by
  rw [locate, locationAt]
  obtain h | h | h | h := h
  · rw [if_pos (by omega), controlLocation_reserved (by omega)]
  · rw [if_neg (by omega), dif_neg (by omega), if_pos (by omega)]
  · rw [if_neg (by omega), dif_neg (by omega), if_neg (by omega), dif_neg (by omega), if_pos (by omega)]
  · rw [if_neg (by omega), dif_neg (by omega), if_neg (by omega), dif_neg (by omega), if_neg (by omega),
      dif_neg (by omega), dif_neg (by omega)]

/-- The location is neither `CTRL` nor `STATUS`, and no operand register: a host write is ignored there (R62, R72). -/
def Location.IgnoresWrites (l : Location) : Prop :=
  l ≠ .ctrl ∧ l ≠ .status ∧ l.idleWritable = false

theorem Location.ignoresWrites_reserved : Location.reserved.IgnoresWrites := ⟨nofun, nofun, rfl⟩

/-- The read-only addresses of R61. -/
theorem locate_ignoresWrites {a : BitVec 9}
    (h : a.toNat = 0x002 ∨ a.toNat = 0x003 ∨ a.toNat = 0x007 ∨ (0x00a ≤ a.toNat ∧ a.toNat ≤ 0x00d) ∨
      (0x080 ≤ a.toNat ∧ a.toNat ≤ 0x0bc) ∨ (0x0c0 ≤ a.toNat ∧ a.toNat ≤ 0x0ff)) :
    (locate a).IgnoresWrites := by
  obtain h | ⟨h1, h2⟩ | ⟨h1, h2⟩ : (a.toNat = 2 ∨ a.toNat = 3 ∨ a.toNat = 7 ∨ a.toNat = 10 ∨ a.toNat = 11 ∨
      a.toNat = 12 ∨ a.toNat = 13) ∨ (0x080 ≤ a.toNat ∧ a.toNat ≤ 0x0bc) ∨ (0x0c0 ≤ a.toNat ∧ a.toNat ≤ 0x0ff) := by
    omega
  · unfold locate
    obtain h | h | h | h | h | h | h := h <;> rw [h] <;> exact ⟨nofun, nofun, rfl⟩
  · obtain ⟨i, hi⟩ := Nat.exists_eq_add_of_le h1
    rw [locate, hi, locationAt_rspPayload (by omega)]
    exact ⟨nofun, nofun, rfl⟩
  · obtain ⟨i, hi⟩ := Nat.exists_eq_add_of_le h1
    rw [locate, hi, locationAt_txbuf (by omega)]
    exact ⟨nofun, nofun, rfl⟩

-- Reads (R65, R68)

theorem State.windowRead_ofNat (s : State) {n : Nat} {l : Location} (hn : n < 512) (h : locationAt n = l) :
    s.windowRead (BitVec.ofNat 9 n) = s.readLocation l := by
  rw [State.windowRead, locate_ofNat hn, h]

/-- Settles O34: address by address for the registers, index by index for the four arrays. -/
theorem readsChangeNothing : Obligations.ReadsChangeNothing := by
  intro s
  refine ⟨fun _ => rfl, rfl, ?_, ?_, rfl, rfl, rfl, ?_, rfl, rfl, rfl, rfl, rfl, fun i h => ?_, fun i h => ?_,
    fun i h => ?_, fun i h => ?_⟩
  · show s.result.code = _
    cases s.result <;> rfl
  · show s.cause.code = _
    cases s.cause <;> rfl
  · show s.phase.code = _
    cases s.phase <;> rfl
  · exact s.windowRead_ofNat (by omega) (locationAt_reqPayload h)
  · exact s.windowRead_ofNat (by omega) (locationAt_rspPayload h)
  · exact s.windowRead_ofNat (by omega) (locationAt_txbuf h)
  · exact s.windowRead_ofNat (by omega) (locationAt_rxbuf h)

/-- A 16-bit word is its high byte before its low byte. -/
theorem highByte_append_lowByte (x : BitVec 16) : (x >>> 8).setWidth 8 ++ x.setWidth 8 = x := by
  rw [BitVec.setWidth_ushiftRight_eq_extractLsb, BitVec.setWidth_eq_extractLsb' (by decide)]
  exact (BitVec.extractLsb'_append_extractLsb'_eq_extractLsb' rfl).trans BitVec.extractLsb'_eq_self

/-- Settles O37: the window shows the two bytes of the register, the high one at the higher address. -/
theorem timeoutIsLittleEndian : Obligations.TimeoutIsLittleEndian :=
  fun s => (highByte_append_lowByte s.timeoutMs).symm

-- What a stored byte changes, element by element (R61, R68)

section
variable (l : Location) (v : Byte) (s : State)

@[simp] theorem State.storeLocation_reqType :
    (s.storeLocation l v).reqType = if l = .reqType then v else s.reqType := by
  cases l <;> rfl

@[simp] theorem State.storeLocation_reqCmd :
    (s.storeLocation l v).reqCmd = if l = .reqCmd then v else s.reqCmd := by
  cases l <;> rfl

@[simp] theorem State.storeLocation_reqPlen :
    (s.storeLocation l v).reqPlen = if l = .reqPlen then v else s.reqPlen := by
  cases l <;> rfl

@[simp] theorem State.storeLocation_rxCount :
    (s.storeLocation l v).rxCount = if l = .rxCount then v else s.rxCount := by
  cases l <;> rfl

@[simp] theorem State.storeLocation_timeoutLow :
    (s.storeLocation l v).timeoutMs.setWidth 8 = if l = .timeoutLow then v else s.timeoutMs.setWidth 8 := by
  cases l with
  | timeoutLow => exact BitVec.setWidth_append_eq_right
  | timeoutHigh => exact BitVec.setWidth_append_eq_right
  | _ => rfl

@[simp] theorem State.storeLocation_timeoutHigh :
    ((s.storeLocation l v).timeoutMs >>> 8).setWidth 8 =
      if l = .timeoutHigh then v else (s.timeoutMs >>> 8).setWidth 8 := by
  rw [BitVec.setWidth_ushiftRight_eq_extractLsb, BitVec.setWidth_ushiftRight_eq_extractLsb]
  cases l with
  | timeoutLow => exact BitVec.extractLsb'_append_eq_left.trans BitVec.setWidth_ushiftRight_eq_extractLsb
  | timeoutHigh => exact BitVec.extractLsb'_append_eq_left
  | _ => rfl

@[simp] theorem State.storeLocation_reqPayload (i : Nat) (h : i < 60) :
    (s.storeLocation l v).reqPayload[i] = if l = .reqPayload ⟨i, h⟩ then v else s.reqPayload[i] := by
  cases l <;> simp [State.storeLocation, Vector.getElem_set, Fin.ext_iff]

@[simp] theorem State.storeLocation_rxbuf (i : Nat) (h : i < 64) :
    (s.storeLocation l v).rxbuf[i] = if l = .rxbuf ⟨i, h⟩ then v else s.rxbuf[i] := by
  cases l <;> simp [State.storeLocation, Vector.getElem_set, Fin.ext_iff]

/-- A host write to a register reaches none of the elements that the host only reads, nor the timer and the transport's log. -/
@[simp] theorem State.storeLocation_keeps :
    (s.storeLocation l v).statusByte = s.statusByte ∧ (s.storeLocation l v).result = s.result ∧
    (s.storeLocation l v).cause = s.cause ∧ (s.storeLocation l v).phase = s.phase ∧
    (s.storeLocation l v).rspType = s.rspType ∧ (s.storeLocation l v).rspCmd = s.rspCmd ∧
    (s.storeLocation l v).rspAck = s.rspAck ∧ (s.storeLocation l v).rspPlen = s.rspPlen ∧
    (s.storeLocation l v).rspPayload = s.rspPayload ∧ (s.storeLocation l v).txbuf = s.txbuf ∧
    (s.storeLocation l v).timer = s.timer ∧ (s.storeLocation l v).txlog = s.txlog ∧
    (s.storeLocation l v).hostData = s.hostData ∧ (s.storeLocation l v).inputs = s.inputs := by
  cases l <;> exact ⟨rfl, rfl, rfl, rfl, rfl, rfl, rfl, rfl, rfl, rfl, rfl, rfl, rfl, rfl⟩

theorem State.readLocation_storeLocation_same (h : l.idleWritable = true) :
    (s.storeLocation l v).readLocation l = v := by
  cases l <;> simp [Location.idleWritable, State.readLocation] at h ⊢

theorem State.readLocation_storeLocation_of_ne {l' : Location} (h : l ≠ l') :
    (s.storeLocation l v).readLocation l' = s.readLocation l' := by
  cases l' <;> simp [State.readLocation, h]

end

-- Host writes (R49, R62, R72, R73)

theorem Location.ne_ctrl_of_idleWritable {l : Location} (h : l.idleWritable = true) : l ≠ .ctrl := by
  rintro rfl
  cases h

theorem Location.ne_status_of_idleWritable {l : Location} (h : l.idleWritable = true) : l ≠ .status := by
  rintro rfl
  cases h

section
variable {a : BitVec 9} {s : State}

theorem hostWrite_operand_of_idle (ha : (locate a).idleWritable = true) (hs : s.phase = .idle) (v : Byte) :
    hostWrite a v s = .next (s.storeLocation (locate a) v) := by
  rw [hostWrite_not_ctrl (Location.ne_ctrl_of_idleWritable ha), State.writeLocation,
    if_neg (Location.ne_status_of_idleWritable ha), if_pos ha, if_neg (by simp [State.busy, hs])]

theorem hostWrite_operand_of_busy (ha : (locate a).idleWritable = true) (hs : s.phase ≠ .idle) (v : Byte) :
    hostWrite a v s = .next s.refuseBusy := by
  rw [hostWrite_not_ctrl (Location.ne_ctrl_of_idleWritable ha), State.writeLocation,
    if_neg (Location.ne_status_of_idleWritable ha), if_pos ha, if_pos (s.busy_eq_true.mpr hs)]

theorem hostWrite_ignored (ha : (locate a).IgnoresWrites) (v : Byte) : hostWrite a v s = .next s := by
  obtain ⟨hctrl, hstatus, hoperand⟩ := ha
  rw [hostWrite_not_ctrl hctrl, State.writeLocation, if_neg hstatus, if_neg (by simp [hoperand])]

end

/-- Settles O30: the written location reads the stored byte, and any other address is another location or a reserved one. -/
theorem windowReadAfterWrite : Obligations.WindowReadAfterWrite := by
  intro s a v hs ha
  have hw := idleWritable_of_address ha
  have hr : locate a ≠ .reserved := by
    intro h
    rw [h] at hw
    cases hw
  refine ⟨_, hostWrite_operand_of_idle hw hs v, s.readLocation_storeLocation_same _ v hw, fun b hb => ?_, ?_⟩
  · exact s.readLocation_storeLocation_of_ne _ v fun h => hb (locate_injective h hr).symm
  · simp

/-- Settles O33: no read-only address is that of `CTRL`, of `STATUS` or of an operand register. -/
theorem readOnlyLocations : Obligations.ReadOnlyLocations :=
  fun _ _ v ha => hostWrite_ignored (locate_ignoresWrites ha) v

-- Refusal while busy (R73, R109 to R112)

theorem exec_operation_of_busy {i : Instr} (hi : i = .transact ∨ i = .encode ∨ i = .decode) {s : State}
    (hs : s.phase ≠ .idle) : exec i s = .next s.refuseBusy := by
  have hb := s.busy_eq_true.mpr hs
  obtain rfl | rfl | rfl := hi <;> exact if_pos hb

/-- Settles O18: each of the three operations asks for `BUSY` first. -/
theorem operationsAreRefusedWhileBusy : Obligations.OperationsAreRefusedWhileBusy :=
  fun _ hs => ⟨exec_operation_of_busy (.inl rfl) hs, exec_operation_of_busy (.inr (.inl rfl)) hs,
    exec_operation_of_busy (.inr (.inr rfl)) hs⟩

theorem writeCtrl_of_busy {v : Byte} (hv : v ≠ 0x00) {s : State} (hs : s.phase ≠ .idle) :
    writeCtrl v s = .next s.refuseBusy := by
  obtain ⟨h0, -⟩ | ⟨-, hw⟩ | ⟨-, hw⟩ | ⟨-, hw⟩ | ⟨-, hw⟩ := writeCtrl_cases v s
  · exact absurd h0 hv
  · exact hw.trans (exec_operation_of_busy (i := .transact) (by simp) hs)
  · exact hw.trans (exec_operation_of_busy (i := .encode) (by simp) hs)
  · exact hw.trans (exec_operation_of_busy (i := .decode) (by simp) hs)
  · rw [hw, State.badOpWord, if_pos (s.busy_eq_true.mpr hs)]

/-- Settles O31: the operand registers, then the words of `CTRL`, then `STATUS`. -/
theorem busyWritesAreRefused : Obligations.BusyWritesAreRefused :=
  fun _ _ v hs => ⟨fun ha => hostWrite_operand_of_busy (idleWritable_of_address ha) hs v,
    fun hv => (hostWrite_ctrl rfl v _).trans (writeCtrl_of_busy hv hs), rfl, rfl⟩

-- No access stops (R62)

theorem exec_answers (i : Instr) (s : State) : ∃ t, exec i s = .next t := by
  obtain rfl | rfl | rfl | rfl | hp | hp := port_cases i
  · exact ⟨_, rfl⟩
  · simp only [exec, execTransact]
    split <;> exact ⟨_, rfl⟩
  · simp only [exec, execEncode]
    split <;> exact ⟨_, rfl⟩
  · simp only [exec, execDecode]
    split <;> exact ⟨_, rfl⟩
  · exact ⟨_, exec_of_port_transmit hp s⟩
  · exact ⟨_, exec_of_port_receive hp s⟩

theorem writeCtrl_answers (v : Byte) (s : State) : ∃ t, writeCtrl v s = .next t := by
  unfold writeCtrl
  split
  · exact exec_answers _ s
  · exact ⟨_, rfl⟩

theorem hostWrite_answers (a : BitVec 9) (v : Byte) (s : State) : ∃ t, hostWrite a v s = .next t := by
  unfold hostWrite
  split
  · exact writeCtrl_answers v s
  · exact ⟨_, rfl⟩

/-- Settles O32: every access answers, and a reserved address is none of the locations that hold or take a byte. -/
theorem reservedLocations : Obligations.ReservedLocations := by
  intro s a v
  refine ⟨⟨_, rfl⟩, hostWrite_answers a v s, fun ha => ?_⟩
  have hr := locate_reserved ha
  exact ⟨by rw [State.windowRead, hr]; rfl, hostWrite_ignored (by rw [hr]; exact Location.ignoresWrites_reserved) v⟩

-- A set beside a clear (R76, D5)

theorem State.takeDelivery_ends (d : Delivery) (s : State) :
    (s.takeDelivery d).phase = .idle ∧ (s.takeDelivery d).done = true := by
  obtain ⟨p, -, h⟩ | ⟨-, h⟩ | ⟨e, -, -, h⟩ | ⟨-, h⟩ := s.takeDelivery_cases d <;> simp [h]

theorem State.takeDelivery_chkerr_of_badSum {d : Delivery} (h : packetDecode Config.lenEdgePolicy d = .checksumError)
    (s : State) : (s.takeDelivery d).chkerr = true := by
  have hd : d ≠ [] := by
    rintro rfl
    cases h
  rw [State.takeDelivery_of_ne_nil hd, h]
  rfl

theorem takeStep_of_head {s : State} {d : Delivery} {ds : List Delivery} (hw : s.phase = .wait) (hq : s.rxq = d :: ds) :
    takeStep s = .next (State.takeDelivery d { s with rxq := ds }) := by
  obtain ⟨d', ds', -, hq', h⟩ | ⟨hno, -⟩ := takeStep_cases s
  · obtain ⟨rfl, rfl⟩ := List.cons.inj (hq.symm.trans hq')
    exact h
  · exact absurd ⟨hw, by simp [hq]⟩ hno

theorem State.expire_of_timeout {s : State} (hw : s.phase = .wait) (hq : s.rxq = []) (h0 : s.timer = 0) :
    s.expire = s.finish .noResponse .timeout := by
  simp [State.expire, State.nothingToTake, hw, hq, h0]

theorem State.expireUntimed_of_empty {s : State} (hw : s.phase = .wait) (hq : s.rxq = []) :
    s.expireUntimed = s.finish .noResponse .timeout := by
  simp [State.expireUntimed, State.nothingToTake, hw, hq]

/-- Settles O36: the engine's step runs on the cleared flags, so that the flag it sets is the last word. -/
theorem setWinsOverClear : Obligations.SetWinsOverClear := by
  intro s v hw
  refine ⟨fun d ds hq => ?_, fun hq => ⟨fun h0 => ?_, ?_⟩⟩
  · obtain ⟨hphase, hdone⟩ := State.takeDelivery_ends d { s.writeStatus v with rxq := ds }
    exact ⟨_, takeStep_of_head (s := s.writeStatus v) hw hq, hphase, hdone,
      fun hbad => State.takeDelivery_chkerr_of_badSum hbad _⟩
  · exact ⟨_, congrArg Host.Outcome.next (State.expire_of_timeout (s := s.writeStatus v) hw hq h0), rfl, rfl⟩
  · exact ⟨_, congrArg Host.Outcome.next (State.expireUntimed_of_empty (s := s.writeStatus v) hw hq), rfl, rfl⟩

-- `TXLOG` (R77, R181)

/-- The log of `t` is that of `s`, or that of `s` in `SEND` with the offered frame appended. -/
def State.LogGrowsByTxbuf (s t : State) : Prop :=
  t.txlog = s.txlog ∨ (s.phase = .send ∧ t.txlog = s.txlog ++ [s.txbuf])

theorem writeCtrl_txlog {v : Byte} {s t : State} (h : writeCtrl v s = .next t) : t.txlog = s.txlog := by
  obtain ⟨-, rfl⟩ | ⟨-, -, rfl⟩ | ⟨-, -, -, rfl⟩ | ⟨-, -, -, rfl⟩ | ⟨-, -, c, -, rfl⟩ | ⟨-, -, rfl⟩ | ⟨-, -, rfl⟩ :=
    writeCtrl_next h <;> simp

/-- The host does not reach `TXLOG`. -/
theorem hostWrite_txlog {a : BitVec 9} {v : Byte} {s t : State} (h : hostWrite a v s = .next t) :
    t.txlog = s.txlog := by
  obtain ⟨-, hw⟩ | ⟨-, rfl⟩ | ⟨-, -, rfl⟩ | ⟨-, -, rfl⟩ | rfl := hostWrite_next h
  · exact writeCtrl_txlog hw
  all_goals simp

/-- Of the engine's steps only the send step reaches `TXLOG` (R181). -/
theorem engineMove_txlog {m : EngineMove} {s t : State} (h : engineMove m s = .next t) : s.LogGrowsByTxbuf t := by
  obtain rfl | ⟨-, hs, rfl⟩ | ⟨-, -, d, ds, -, rfl⟩ | ⟨-, -, -, rfl⟩ | ⟨-, -, -, rfl⟩ := engineMove_next h
  · exact .inl rfl
  · exact .inr ⟨hs, rfl⟩
  · exact .inl (by simp)
  · exact .inl rfl
  · exact .inl rfl

/-- A reset leaves the log, or in `SEND` finds the offered frame taken (U14). -/
theorem State.hardReset_txlog (taken : Bool) (s : State) : s.LogGrowsByTxbuf (s.hardReset taken) := by
  rw [State.LogGrowsByTxbuf, State.hardReset_eq]
  cases h : taken && s.txValid
  · exact .inl rfl
  · exact .inr ⟨s.txValid_eq_true.mp (Bool.and_eq_true_iff.mp h).2, rfl⟩

theorem performMove_txlog {m : Move} {s t : State} (h : performMove m s = .next t) : s.LogGrowsByTxbuf t := by
  obtain rfl | ⟨a, -, rfl⟩ | ⟨a, v, -, hw⟩ | ⟨e, -, he⟩ | ⟨v, e, -, he⟩ | ⟨d, -, rfl⟩ | ⟨taken, -, rfl⟩ :=
    performMove_next h
  · exact .inl rfl
  · exact .inl rfl
  · exact .inl (hostWrite_txlog hw)
  · exact engineMove_txlog he
  · exact engineMove_txlog (s := s.writeStatus v) he
  · exact .inl rfl
  · exact s.hardReset_txlog taken

theorem step_txlog {s t : State} (h : step s = .next t) : s.LogGrowsByTxbuf t := by
  obtain ⟨m, ms, -, hm⟩ | ⟨-, hm⟩ := step_next h
  · exact performMove_txlog (s := { s with inputs := ms }) hm
  · exact performMove_txlog hm

theorem State.Inv.txbuf_of_flight {s : State} (h : s.Inv) (hs : s.phase ≠ .idle) : s.txbuf = s.requestFrame := by
  obtain ⟨-, hflight, -, -⟩ := h
  obtain ⟨-, -, -, -, -, -, htx⟩ := hflight hs
  exact htx

/-- Settles O48: the log grows by `TXBUF`, which in `SEND` is the frame of the request registers by the invariant. -/
theorem sentFrameIsTheRequest : Obligations.SentFrameIsTheRequest := by
  intro s t hinv h
  obtain hkept | ⟨hs, hgrown⟩ := step_txlog h
  · exact .inl hkept
  · rw [hinv.txbuf_of_flight (by simp [hs])] at hgrown
    exact .inr ⟨hs, hgrown⟩

end Sys2Proof.Machine
end

section
/-! PROOFS. The family of the encodings (30_encoding.md): what the two frame ports read from a frame, the decoder as the inverse
of the encoder (R98, R99, R105, R120), the packet codec on its own frames (R138, R139), the operation words, the steps that run a
decoded instruction, one whole transaction (R174), and the obligations about them. -/

namespace Sys2Proof

-- A frame at the two frame ports

/-- The transmit port reads a frame by its header and the 61 bytes after it (R98). -/
theorem decode_transmit_frame (type len cmd : Byte) (body : FrameBody) :
    decode .transmit (type :: len :: cmd :: body.toList) = decodeTransmit type len cmd body :=
  dif_pos body.length_toList

/-- The receive port reads every frame, by its header and the 61 bytes after it (R98, R113). -/
theorem decode_receive_frame (type len cmd : Byte) (body : FrameBody) :
    decode .receive (type :: len :: cmd :: body.toList) = .ok (decodeReceive type len cmd body) :=
  dif_pos body.length_toList

-- The single bits that the decoder asks for, as bounds on the byte

theorem byte_getLsbD_seven (b : Byte) : b.getLsbD 7 = true ↔ 128 ≤ b.toNat := by
  revert b; decide

theorem byte_getLsbD_six {b : Byte} (h : ¬128 ≤ b.toNat) : b.getLsbD 6 = true ↔ 64 ≤ b.toNat := by
  revert b; decide

theorem setWidth_command_msb (cmd : BitVec 7) : (cmd.setWidth 8 : Byte).msb = false := by
  revert cmd; decide

/-- A command byte with the nack bit 0 is known by its command number. -/
theorem setWidth_command_eq_iff (cmd : BitVec 7) (n : Nat) (hn : n < 128) :
    cmd.setWidth 8 = BitVec.ofNat 8 n ↔ cmd = BitVec.ofNat 7 n := by
  constructor <;> intro h <;> bv_omega

theorem requestLength_setWidth (len : BitVec 6) :
    requestLength (len.setWidth 8 : Byte).toNat = requestLength len.toNat := by
  rw [BitVec.toNat_setWidth_of_le (by decide)]

-- Requests: the CMD rows and `REQ`

/-- A request header names a CMD row exactly when its pair is documented (R120, R213 to R224). -/
theorem commandRow_isSome (type len : Byte) (cmd : BitVec 7) (body : FrameBody) :
    (commandRow type len (cmd.setWidth 8) body).isSome = documented type cmd := by
  unfold commandRow
  split
  next ha => simp [documented, documentedPairs, ha, setWidth_command_eq_iff, apply_ite Option.isSome]
  next ha =>
    split
    next hd => simp [documented, documentedPairs, hd, setWidth_command_eq_iff, apply_ite Option.isSome]
    next hd =>
      split
      next hx => simp [documented, documentedPairs, hx, setWidth_command_eq_iff, apply_ite Option.isSome]
      next hx => simp_all [documented, documentedPairs]

theorem commandRow_of_documented {type : Byte} {cmd : BitVec 7} (h : documented type cmd = true) (len : Byte)
    (body : FrameBody) : ∃ i, commandRow type len (cmd.setWidth 8) body = some i :=
  Option.isSome_iff_exists.mp ((commandRow_isSome type len cmd body).trans h)

theorem commandRow_of_not_documented {type : Byte} {cmd : BitVec 7} (h : documented type cmd = false) (len : Byte)
    (body : FrameBody) : commandRow type len (cmd.setWidth 8) body = none :=
  Option.isNone_iff_eq_none.mp (Option.isSome_eq_false_iff.mp ((commandRow_isSome type len cmd body).trans h))

/-- The instruction of a CMD row is well formed and is no `REQ`. -/
theorem commandRow_wf {type len cmd : Byte} {body : FrameBody} {i : Instr} (h : commandRow type len cmd body = some i) :
    i.wf = true ∧ ∀ type' len' cmd' body', i ≠ .req type' len' cmd' body' := by
  unfold commandRow at h
  repeat' split at h
  all_goals first
    | (cases h; exact ⟨rfl, nofun⟩)
    | cases h

/-- A frame of a CMD row is read as that row, whatever its length byte (R120). -/
theorem decodeTransmit_of_row {type len cmd : Byte} {body : FrameBody} {i : Instr}
    (h : commandRow type len cmd body = some i) : decodeTransmit type len cmd body = .ok i := by
  rw [decodeTransmit, h]

/-- A frame with no CMD row, the nack bit 0 and a length that an encoder produces is read as `REQ` (R99). -/
theorem decodeTransmit_of_no_row {type len : Byte} {cmd : BitVec 7} {body : FrameBody}
    (h : documented type cmd = false) (hlen : requestLength len.toNat = true) :
    decodeTransmit type len (cmd.setWidth 8) body = .ok (.req type (len.setWidth 6) cmd body) := by
  have hcmd : (cmd.setWidth 8 : Byte).setWidth 7 = cmd := by simp
  rw [decodeTransmit, commandRow_of_not_documented h]
  simp only [setWidth_command_msb, hlen, hcmd, Bool.false_eq_true, if_false, if_true]

-- The encoder's frames, read back

/-- `REQ` is read back where it is well formed: a legal length, and no CMD row that takes its pair (R99, log entry 4). -/
theorem decode_encode_req {type : Byte} {len : BitVec 6} {cmd : BitVec 7} {body : FrameBody}
    (h : (Instr.req type len cmd body).wf = true) :
    decode .transmit (encode (.req type len cmd body)) = .ok (.req type len cmd body) := by
  obtain ⟨hlen, hdoc⟩ : requestLength len.toNat = true ∧ documented type cmd = false := by simpa [Instr.wf] using h
  rw [encode, decode_transmit_frame, decodeTransmit_of_no_row hdoc ((requestLength_setWidth len).trans hlen)]
  simp

/-- The header bits 7 and 6 of the length byte and bit 7 of the command byte choose the class of a received frame, and its
operands are the bits they leave (R99, R113, R120). -/
theorem decodeReceive_rspAck (type : Byte) (len : BitVec 6) (cmd : BitVec 7) (body : FrameBody) :
    decodeReceive type (len.setWidth 8) (cmd.setWidth 8) body = .rspAck type len cmd body := by
  simp [decodeReceive, setWidth_command_msb]

theorem decodeReceive_rspNack (type : Byte) (len : BitVec 6) (cmd : BitVec 7) (body : FrameBody) :
    decodeReceive type (len.setWidth 8) (cmd.setWidth 8 ||| 0x80) body = .rspNack type len cmd body := by
  simp [decodeReceive, msb_eq_bit7]

theorem decodeReceive_illegalLen64To127 (type : Byte) (len : BitVec 6) (cmd : Byte) (body : FrameBody) :
    decodeReceive type (len.setWidth 8 ||| 0x40) cmd body = .illegalLen64To127 type len cmd body := by
  simp [decodeReceive]

theorem decodeReceive_illegalLen128To255 (type : Byte) (len : BitVec 7) (cmd : Byte) (body : FrameBody) :
    decodeReceive type (len.setWidth 8 ||| 0x80) cmd body = .illegalLen128To255 type len cmd body := by
  simp [decodeReceive]

/-- Settles O1: constructor by constructor, an operation word by its value, a received frame by its class, a request by its CMD
row or, with no such row, as `REQ`. -/
theorem decodeOfEncodedInstruction : Obligations.DecodeOfEncodedInstruction := by
  intro i hwf
  cases i with
  | nop | transact | encode | decode => rfl
  | req type len cmd body => exact decode_encode_req hwf
  | rspAck type len cmd body =>
    exact (decode_receive_frame _ _ _ _).trans (congrArg _ (decodeReceive_rspAck type len cmd body))
  | rspNack type len cmd body =>
    exact (decode_receive_frame _ _ _ _).trans (congrArg _ (decodeReceive_rspNack type len cmd body))
  | illegalLen64To127 type len cmd body =>
    exact (decode_receive_frame _ _ _ _).trans (congrArg _ (decodeReceive_illegalLen64To127 type len cmd body))
  | illegalLen128To255 type len cmd body =>
    exact (decode_receive_frame _ _ _ _).trans (congrArg _ (decodeReceive_illegalLen128To255 type len cmd body))
  | eepromSetpos len body | eepromRead len body | eepromWrite len body | eepromReadat len body
  | eepromAuxread1 len body | eepromAuxread2 len body | stateRead len body | stateWrite1 len body
  | dptxCtrl1 len body | dptxCtrl2 len body | dptxData1 len body | dptxData2 len body =>
    exact (decode_transmit_frame _ len _ body).trans (decodeTransmit_of_row rfl)

-- Received frames (R99, R113)

/-- Settles O3: the three bits that the receive port asks for are the three bounds. -/
theorem receivedFrameHasOneClass : Obligations.ReceivedFrameHasOneClass := by
  intro type len cmd body
  have hmsb : cmd.msb = true ↔ 128 ≤ cmd.toNat := by rw [msb_eq_bit7, byte_getLsbD_seven]
  rw [decode_receive_frame, decodeReceive]
  by_cases h7 : 128 ≤ len.toNat
  · rw [if_pos h7, if_pos ((byte_getLsbD_seven len).mpr h7)]
  · rw [if_neg h7, if_neg (mt (byte_getLsbD_seven len).mp h7)]
    simp only [byte_getLsbD_six h7, hmsb]

end Sys2Proof

namespace Sys2Proof.Machine

-- The encoder's frames as requests (R99, R118)

/-- A frame of the encoder is a header and 61 bytes after it (R91, R130). -/
theorem packetEncode_frame {payload : List Byte} (type command : Byte) (h : payload.length ≤ 60) :
    ∃ body : FrameBody, (packetEncode type command payload).toList =
      type :: BitVec.ofNat 8 (payload.length + 1) :: command :: body.toList := by
  have hlen := packetBytes_length type command h
  rw [packetEncode_toList type command h]
  simp only [packetBytes, packetHead, List.cons_append, List.length_cons] at hlen ⊢
  exact ⟨⟨List.toArray _, by simpa using hlen⟩, rfl⟩

/-- The length field of an encoder's frame does not wrap (R100). -/
theorem lenField_toNat {n : Nat} (h : n ≤ 60) : (BitVec.ofNat 8 (n + 1)).toNat = n + 1 := by
  rw [BitVec.toNat_ofNat]
  omega

/-- The length field of an encoder's frame is a legal one (R99, R137). -/
theorem requestLength_packet {n : Nat} (h : n ≤ 60) : requestLength (BitVec.ofNat 8 (n + 1)).toNat = true := by
  rw [lenField_toNat h, requestLength, decide_eq_true_eq]
  omega

/-- A frame with the nack bit 0 and a legal length field is read as a well-formed request, `REQ` exactly where its pair is not
documented (R99, log entry 4). -/
theorem decodeTransmit_request {len : Byte} (type : Byte) (cmd : BitVec 7) (body : FrameBody)
    (hlen : requestLength len.toNat = true) :
    ∃ i, decodeTransmit type len (cmd.setWidth 8) body = .ok i ∧ i.wf = true ∧
      ((∃ len' cmd' body', i = .req type len' cmd' body') ↔ documented type cmd = false) := by
  cases hdoc : documented type cmd with
  | true =>
    obtain ⟨i, hrow⟩ := commandRow_of_documented hdoc len body
    obtain ⟨hwf, hne⟩ := commandRow_wf hrow
    exact ⟨i, decodeTransmit_of_row hrow, hwf, by simp [hne]⟩
  | false =>
    have hlen6 : requestLength (len.setWidth 6).toNat = true := by
      rw [← requestLength_setWidth, requestLength_bits hlen, hlen]
    exact ⟨_, decodeTransmit_of_no_row hdoc hlen, by rw [Instr.wf, hlen6, hdoc]; rfl, by simp⟩

/-- Settles O4: an encoder's frame has the nack bit 0 and a legal length field, and an instruction that is read from bytes
encodes as those bytes. -/
theorem encodedFrameIsARequest : Obligations.EncodedFrameIsARequest := by
  intro type cmd payload h
  obtain ⟨body, hframe⟩ := packetEncode_frame type (cmd.setWidth 8) h
  obtain ⟨i, hdec, hwf, hreq⟩ := decodeTransmit_request type cmd body (requestLength_packet h)
  rw [← decode_transmit_frame, ← hframe] at hdec
  exact ⟨i, hdec, hwf, encode_of_decode hdec, hreq⟩

-- The operation words (R108, R112)

/-- Settles O13: the meaning of `NOP` is the state it is given. -/
theorem nopChangesNothing : Obligations.NopChangesNothing :=
  fun _ => rfl

theorem writeCtrl_reserved {v : Byte} (hv : 4 ≤ v.toNat) (s : State) : writeCtrl v s = .next s.badOpWord := by
  obtain ⟨rfl, -⟩ | ⟨rfl, -⟩ | ⟨rfl, -⟩ | ⟨rfl, -⟩ | ⟨-, hw⟩ := writeCtrl_cases v s
  case inr.inr.inr.inr => exact hw
  all_goals exact absurd hv (by decide)

/-- Settles O19: no word of 4 or more is an operation, and its refusal asks for the phase alone. -/
theorem reservedOperationWord : Obligations.ReservedOperationWord := by
  intro s v hv
  rw [hostWrite_ctrl rfl, writeCtrl_reserved hv]
  obtain ⟨hs, hb⟩ | ⟨hs, hb⟩ := s.badOpWord_cases
  · rw [hb, if_pos hs]
    rfl
  · rw [hb, if_neg hs]
    rfl

-- Table words (log entries 1, 4, 5)

/-- A table word that is the frame of a well-formed request is read as that request (log entry 4). -/
theorem decodeTableWord_of_request {i : Instr} {w : Nat} (hp : i.port = .transmit) (hwf : i.wf = true)
    (hw : tableFrame w = encode i) : decodeTableWord 24 w = some i := by
  have hd := decodeOfEncodedInstruction i hwf
  rw [hp] at hd
  simp [decodeTableWord, hw, hd]

/-- Settles O2: an operation word by its value; a request header as the frame of its instruction; X2 and X11, which are no
requests, at the receive port. -/
theorem wordsOfTheSpecDecode : Obligations.WordsOfTheSpecDecode :=
  ⟨rfl, rfl, rfl, rfl, rfl, decodeTableWord_of_request rfl rfl rfl, decodeTableWord_of_request rfl rfl rfl,
    decodeTableWord_of_request rfl rfl rfl, decodeTableWord_of_request rfl rfl rfl,
    decodeTableWord_of_request rfl rfl rfl, decodeTableWord_of_request rfl rfl rfl, by decide, by decide⟩

-- The shape checks (R151, R153)

/-- Settles O9: the size is the first check of `decode`, the length field the second. -/
theorem illegalShapeIsRejected : Obligations.IllegalShapeIsRejected := by
  intro policy d
  refine ⟨fun hsize => if_pos hsize, fun hsize hfield => ?_⟩
  rw [packetDecode, if_neg (not_not.mpr hsize), if_pos hfield]

-- The steps that run an instruction (R105, R181, R184)

theorem writeCtrl_of_decode {v : Byte} {i : Instr} (h : decode .ctrl [v] = .ok i) (s : State) :
    writeCtrl v s = exec i s := by
  rw [writeCtrl, h]

theorem sendStep_of_decode {s : State} {i : Instr} (hs : s.phase = .send) (h : decode .transmit s.txbuf.toList = .ok i) :
    sendStep s = exec i s := by
  rw [sendStep, if_pos (s.txValid_eq_true.mpr hs), h]

theorem takeStep_of_decode {s : State} {d : Delivery} {ds : List Delivery} {i : Instr} (hw : s.phase = .wait)
    (hq : s.rxq = d :: ds) (h : decode .receive d = .ok i) : takeStep s = exec i { s with rxq := ds } := by
  rw [takeStep, if_pos (s.rxReady_eq_true.mpr hw), hq]
  simp only [h]

/-- Settles O38: the pending move leaves the list, and each port runs what it decodes. -/
theorem stepRunsTheDecodedInstruction : Obligations.StepRunsTheDecodedInstruction := by
  intro s ms i
  refine ⟨fun v hin hd => ?_, fun hin hs hd => ?_, fun d ds hin hw hq hd => ?_⟩
  · exact (step_cons hin).trans ((hostWrite_ctrl rfl v _).trans (writeCtrl_of_decode hd _))
  · exact (step_cons hin).trans (sendStep_of_decode hs hd)
  · exact (step_cons hin).trans (takeStep_of_decode hw hq hd)

-- The packet codec on its own frames (R101, R138, R139)

/-- The checksum makes the sum of the bytes up to it a multiple of 256, and the padding adds 0 (R101, R138). -/
theorem sum8_packetBytes (type command : Byte) (payload : List Byte) : sum8 (packetBytes type command payload) = 0 := by
  simp only [sum8, packetBytes, sumNat_append, sumNat_cons, sumNat_nil, checksum, BitVec.toNat_ofNat, BitVec.ofNat_eq_ofNat,
    sumNat_zeros]
  omega

theorem packetBytes_lenField (type command : Byte) (payload : List Byte) :
    (packetBytes type command payload).getD 1 0 = BitVec.ofNat 8 (payload.length + 1) := rfl

/-- The `n` bytes from offset 3 on of an encoder's frame are its payload (R91, R100). -/
theorem slice_packetBytes (type command : Byte) (payload : List Byte) :
    slice 3 (payload.length + 3) (packetBytes type command payload) = payload := by
  simp [slice, packetBytes, packetHead]

/-- A frame of the encoder with at most 60 payload bytes passes every check of `decode` and gives its operands back, the command
byte as ack flag and command number (R102, R139). -/
theorem packetDecode_packetEncode {payload : List Byte} (type command : Byte) (h : payload.length ≤ 60)
    (policy : LenEdgePolicy) :
    packetDecode policy (packetEncode type command payload).toList =
      .ok { type, ack := ackFlag command, command := commandNumber command, payload } := by
  have hlen := lenField_toNat h
  have hedge : lenEdgeValue (payload.length + 1) = false := by
    simp [lenEdgeValue]
    omega
  have hfields : packetFields (packetBytes type command payload) =
      { type, ack := ackFlag command, command := commandNumber command, payload } := by
    rw [packetFields, packetBytes_lenField, hlen, min_eq_left (by simp; omega), slice_packetBytes]
    rfl
  rw [packetEncode_toList type command h, packetDecode, if_neg (by simp [packetBytes_length type command h]),
    packetBytes_lenField, hlen, if_neg (by simp; omega), if_neg (by simp [hedge]),
    if_neg (by simp [sum8_packetBytes]), hfields]

-- A legal request (R132, R133, R135)

theorem State.requestCause_of_legal {s : State} (hplen : s.reqPlen.toNat ≤ 60) (hcmd : s.reqCmd.toNat < 0x80) :
    s.requestCause = none := by
  obtain ⟨hnone, -⟩ | ⟨-, hlong⟩ | ⟨-, -, hbit⟩ := s.requestCause_cases
  · exact hnone
  · omega
  · omega

theorem State.requestPayload_length {s : State} (hplen : s.reqPlen.toNat ≤ 60) :
    s.requestPayload.length = s.reqPlen.toNat := by
  simpa [State.requestPayload] using hplen

-- One transaction (R174)

theorem fit_toList_take {n : Nat} {l : List Byte} (h : l.length ≤ n) : (fit n l).toList.take l.length = l := by
  simp [fit_toList, h]

theorem State.takeDelivery_of_packet {d : Delivery} {p : Packet} (h : packetDecode Config.lenEdgePolicy d = .ok p)
    (s : State) : s.takeDelivery d = ((s.loadDelivery d).writeResponse p).finish p.result .none := by
  have hne : d ≠ [] := by
    rintro rfl
    cases h
  rw [State.takeDelivery_of_ne_nil hne, h, State.classify_ok]

section
variable {s : State} {ms : List Move}

theorem step_transact (hs : s.phase = .idle) (hreq : s.requestCause = none)
    (hin : s.inputs = .write 0x000 0x01 :: ms) : step s = .next { s.startTransaction with inputs := ms } := by
  obtain ⟨-, hw⟩ | ⟨c, hc, -⟩ := State.withCheckedRequest_cases { s with inputs := ms }
    (State.startTransaction { s with inputs := ms })
  · rw [step_cons hin]
    have hb : ¬State.busy { s with inputs := ms } = true := by simp [State.busy, hs]
    exact (if_neg hb).trans (congrArg _ hw)
  · exact absurd (hc.symm.trans hreq) (by simp)

theorem step_send (hs : s.phase = .send) (hin : s.inputs = .engine .send :: ms) :
    step s = .next { s.sendFrame s.txbuf with inputs := ms } := by
  rw [step_cons hin]
  exact (sendStep_eq _).trans (congrArg _ (State.transmit_of_send (by exact hs) _))

theorem step_deliver {d : Delivery} (hin : s.inputs = .deliver d :: ms) :
    step s = .next { s.deliver d with inputs := ms } :=
  step_cons hin

theorem step_take {d : Delivery} {ds : List Delivery} (hw : s.phase = .wait) (hq : s.rxq = d :: ds)
    (hin : s.inputs = .engine .take :: ms) : step s = .next (State.takeDelivery d { s with inputs := ms, rxq := ds }) := by
  rw [step_cons hin]
  exact takeStep_of_head hw hq

/-- The state of an accepted transaction whose one delivery is being taken: started, its frame sent, the queue empty. -/
def State.awaitingReply (ms : List Move) (s : State) : State :=
  { s.startTransaction.sendFrame s.requestFrame with inputs := ms, rxq := [] }

/-- From `IDLE` with an empty queue and a legal request: the start, the send, one delivery and the take (R174 to R186). -/
theorem run_transaction {d : Delivery} (hs : s.phase = .idle) (hq : s.rxq = []) (hreq : s.requestCause = none)
    (hin : s.inputs = .write 0x000 0x01 :: .engine .send :: .deliver d :: .engine .take :: ms) :
    Host.Core.run core 4 s = .next ((s.awaitingReply ms).takeDelivery d) := by
  rw [run_succ (step_transact hs hreq hin), run_succ (step_send rfl rfl), run_succ (step_deliver rfl),
    run_succ (step_take rfl (congrArg (· ++ [d]) hq) rfl)]
  rfl

end

/-- Settles O55: the encoder's own frame passes every check of `decode` with the ack flag set, so that taking it reports the
request's operands. -/
theorem echoedRequestIsAcknowledged : Obligations.EchoedRequestIsAcknowledged := by
  intro s ms hs hq hplen hcmd hin
  have hreq := State.requestCause_of_legal hplen hcmd
  have hbit7 : s.reqCmd.getLsbD 7 = false := by
    rw [Bool.eq_false_iff, ne_eq, byte_getLsbD_seven]
    omega
  have hack : ackFlag s.reqCmd = true := by
    rw [ackFlag, hbit7]
    rfl
  have hlen := State.requestPayload_length hplen
  have hmax : s.requestPayload.length ≤ 60 := hlen.trans_le hplen
  have hcount : BitVec.ofNat 8 s.requestPayload.length = s.reqPlen := by
    rw [hlen, BitVec.ofNat_toNat, BitVec.setWidth_eq]
  have hpayload : (fit 61 s.requestPayload).toList.take s.reqPlen.toNat = s.requestPayload := by
    rw [← hlen]
    exact fit_toList_take (by omega)
  have hdec := packetDecode_packetEncode s.reqType s.reqCmd hmax Config.lenEdgePolicy
  refine ⟨_, (run_transaction hs hq hreq hin).trans (congrArg _ (State.takeDelivery_of_packet hdec _)),
    if_pos hack, rfl, rfl, setWidth_seven hbit7, hack, hcount, ?_⟩
  simp only [State.finish_rspPlen, State.finish_rspPayload, State.writeResponse_rspPlen, State.writeResponse_rspPayload,
    hcount]
  exact hpayload

end Sys2Proof.Machine
end

section
/-! PROOFS. The family of the packet encoder (40_packet_encoder.md): the bytes of an encoded frame (R101, R130), the encoder as a
right inverse of the decoder (R139, R140), the check of a request (R132, R133), what `ENCODE` and `TRANSACT` write (R131, R134),
what an operation word leaves as it was, and the obligations about them. -/

namespace Sys2Proof.Machine

-- The bytes of an encoded frame (R101, R130)

section
variable (type command : Byte) (payload : List Byte)

theorem packetHead_length : (packetHead type command payload).length = payload.length + 3 := rfl

/-- The checksum is taken over the bytes that stand before it (R101). -/
theorem packetBytes_take_head :
    (packetBytes type command payload).take (payload.length + 3) = packetHead type command payload := by
  rw [packetBytes, List.append_assoc]
  exact List.take_left' (packetHead_length type command payload)

theorem packetBytes_payload {i : Nat} (h : i < payload.length) :
    (packetBytes type command payload).getD (3 + i) 0 = payload.getD i 0 := by
  rw [packetBytes, List.append_assoc, List.getD_append _ _ _ _ (by rw [packetHead_length]; omega), Nat.add_comm]
  rfl

theorem packetBytes_checksum :
    (packetBytes type command payload).getD (payload.length + 3) 0 = checksum (packetHead type command payload) := by
  rw [packetBytes, List.append_assoc, ← packetHead_length type command, List.getD_append_right _ _ _ _ le_rfl,
    Nat.sub_self]
  rfl

theorem packetBytes_padding {i : Nat} (h : payload.length + 4 ≤ i) :
    (packetBytes type command payload).getD i 0 = 0 := by
  rw [packetBytes, List.getD_append_right _ _ _ _ (by rw [List.length_append, packetHead_length]; exact h)]
  exact List.getElem?_getD_replicate_default_eq ..

end

theorem checksum_toNat (bytes : List Byte) : (checksum bytes).toNat = (256 - sum8 bytes) % 256 := by
  rw [checksum, BitVec.toNat_ofNat]
  exact Nat.mod_mod _ _

/-- Settles O5: the head of the frame, then its payload, its checksum and its padding. -/
theorem encodeBuildsTheFrame : Obligations.EncodeBuildsTheFrame := by
  intro type command payload h
  simp only [packetEncode_toList type command h]
  refine ⟨packetBytes_length type command h, rfl, lenField_toNat h, rfl,
    fun i hi => packetBytes_payload type command payload hi, ?_, fun i hi => packetBytes_padding type command payload hi⟩
  rw [packetBytes_checksum, packetBytes_take_head, checksum_toNat]

/-- Settles O6: the frame is the encoder's bytes, whose sum is a multiple of 256. -/
theorem encodedFrameSumsToZero : Obligations.EncodedFrameSumsToZero := by
  intro type command payload h
  rw [packetEncode_toList type command h, sum8_packetBytes]

-- The encoder undone by the decoder (R139, R140)

/-- A command byte of the legal domain carries the ack flag (R102). -/
theorem ackFlag_setWidth (cmd : BitVec 7) : ackFlag (cmd.setWidth 8) = true := by
  rw [ackFlag, ← msb_eq_bit7, setWidth_command_msb]
  rfl

theorem commandNumber_setWidth (cmd : BitVec 7) : commandNumber (cmd.setWidth 8) = cmd := by
  simp [commandNumber]

/-- Settles O7: the command byte of a legal triple is read as the ack flag and the command number. -/
theorem decodeOfEncodedPacket : Obligations.DecodeOfEncodedPacket := by
  intro policy type cmd payload h
  rw [packetDecode_packetEncode type _ h, ackFlag_setWidth, commandNumber_setWidth]

/-- Settles O8: the decoder gives both triples back from the one frame. -/
theorem encodeIsInjective : Obligations.EncodeIsInjective := by
  intro t t' c c' p p' h h' heq
  have hdec := decodeOfEncodedPacket .clamp t c p h
  rw [heq, decodeOfEncodedPacket .clamp t' c' p' h'] at hdec
  cases hdec
  exact ⟨rfl, rfl, rfl⟩

-- The check of a request (R132, R133, R135)

section
variable {s : State}

theorem State.legal_of_requestCause (h : s.requestCause = none) : s.reqPlen.toNat ≤ 60 ∧ s.reqCmd.toNat < 0x80 := by
  obtain ⟨-, hlegal⟩ | ⟨hc, -⟩ | ⟨hc, -⟩ := s.requestCause_cases
  · exact hlegal
  · exact absurd (h.symm.trans hc) nofun
  · exact absurd (h.symm.trans hc) nofun

theorem State.requestCause_of_long (h : 60 < s.reqPlen.toNat) : s.requestCause = some .payloadTooLong :=
  if_pos h

theorem State.requestCause_of_bit7 (hplen : s.reqPlen.toNat ≤ 60) (hcmd : 0x80 ≤ s.reqCmd.toNat) :
    s.requestCause = some .cmdBit7 :=
  (if_neg (Nat.not_lt.mpr hplen)).trans (if_pos hcmd)

theorem State.withCheckedRequest_of_legal (h : s.requestCause = none) (accepted : State) :
    s.withCheckedRequest accepted = accepted := by
  rw [State.withCheckedRequest, h]

theorem State.withCheckedRequest_of_cause {c : Cause} (h : s.requestCause = some c) (accepted : State) :
    s.withCheckedRequest accepted = s.raise .badRequest c := by
  rw [State.withCheckedRequest, h]

theorem exec_transact_of_idle (hs : s.phase = .idle) :
    exec .transact s = .next (s.withCheckedRequest s.startTransaction) :=
  if_neg (by simp [s.busy_eq_false.mpr hs])

theorem exec_encode_of_idle (hs : s.phase = .idle) :
    exec .encode s = .next (s.withCheckedRequest (s.loadRequestFrame.raise .encoded .none)) :=
  if_neg (by simp [s.busy_eq_false.mpr hs])

/-- Both operations that encode a request report a bad one and write nothing else (R132, R133, R177). -/
theorem exec_of_requestCause {c : Cause} (hs : s.phase = .idle) (h : s.requestCause = some c) :
    exec .transact s = .next (s.raise .badRequest c) ∧ exec .encode s = .next (s.raise .badRequest c) := by
  rw [exec_transact_of_idle hs, exec_encode_of_idle hs, State.withCheckedRequest_of_cause h,
    State.withCheckedRequest_of_cause h]
  exact ⟨rfl, rfl⟩

end

/-- Settles O15: a legal request passes the check, so that its frame is loaded and `ENCODED` reported. -/
theorem encodeFillsTxbuf : Obligations.EncodeFillsTxbuf := by
  intro s hs hplen hcmd
  rw [exec_encode_of_idle hs, State.withCheckedRequest_of_legal (State.requestCause_of_legal hplen hcmd)]
  rfl

/-- Settles O16: each broken precondition is the cause that the check finds, the payload length first. -/
theorem badRequestIsRefused : Obligations.BadRequestIsRefused :=
  fun _ hs => ⟨fun hlong => exec_of_requestCause hs (State.requestCause_of_long hlong),
    fun hplen hcmd => exec_of_requestCause hs (State.requestCause_of_bit7 hplen hcmd)⟩

-- `TXBUF` (R39, R131)

/-- `TXBUF` is the frame of a legal request that `TRANSACT` or `ENCODE` has just encoded in `IDLE`, or it is as it was. -/
theorem exec_txbuf {i : Instr} {s t : State} (h : exec i s = .next t) :
    ((i = .transact ∨ i = .encode) ∧ s.phase = .idle ∧ s.requestCause = none ∧ t.txbuf = s.requestFrame) ∨
    t.txbuf = s.txbuf := by
  obtain ⟨-, rfl⟩ | ⟨-, -, rfl⟩ | ⟨hs, hi, hreq, rfl⟩ | ⟨hs, hi, hreq, rfl⟩ | ⟨-, -, c, -, rfl⟩ | ⟨-, -, rfl⟩ |
    ⟨-, -, rfl⟩ | ⟨-, -, rfl⟩ | ⟨-, -, rfl⟩ | ⟨-, -, rfl⟩ := exec_cases h
  case inr.inr.inl => exact .inl ⟨.inl hi, hs, hreq, rfl⟩
  case inr.inr.inr.inl => exact .inl ⟨.inr hi, hs, hreq, rfl⟩
  all_goals exact .inr (by simp)

/-- Settles O27: only an encoded request reaches `TXBUF`, and the check has found that request legal. -/
theorem onlyEncodingWritesTxbuf : Obligations.OnlyEncodingWritesTxbuf := by
  intro i s t h
  obtain ⟨hi, hs, hreq, htx⟩ | hkept := exec_txbuf h
  · obtain ⟨hplen, hcmd⟩ := State.legal_of_requestCause hreq
    exact .inl ⟨hi, hs, hplen, hcmd, htx⟩
  · exact .inr hkept

-- The locations that no instruction writes (R26, R35, R61, R62)

/-- The location shows a request register or the timeout, or always reads 0. -/
def Location.showsRequest : Location → Bool
  | .ctrl | .reqType | .reqCmd | .reqPlen | .timeoutLow | .timeoutHigh | .reqPayload _ | .reserved => true
  | .status | .result | .cause | .phase | .rspType | .rspCmd | .rspAck | .rspPlen | .rxCount => false
  | .rspPayload _ | .txbuf _ | .rxbuf _ => false

/-- The addresses of those locations, as R61 lists them. -/
theorem showsRequest_of_address {a : BitVec 9}
    (h : a.toNat = 0x000 ∨ (0x004 ≤ a.toNat ∧ a.toNat ≤ 0x006) ∨ (0x008 ≤ a.toNat ∧ a.toNat ≤ 0x009) ∨
      (0x00f ≤ a.toNat ∧ a.toNat < 0x080) ∨ (0x0bd ≤ a.toNat ∧ a.toNat ≤ 0x0bf) ∨ 0x140 ≤ a.toNat) :
    (locate a).showsRequest = true := by
  obtain hc | ⟨h1, h2⟩ | hr : (a.toNat = 0 ∨ a.toNat = 4 ∨ a.toNat = 5 ∨ a.toNat = 6 ∨ a.toNat = 8 ∨ a.toNat = 9) ∨
      (0x040 ≤ a.toNat ∧ a.toNat < 0x07c) ∨
      ((0x00f ≤ a.toNat ∧ a.toNat ≤ 0x03f) ∨ (0x07c ≤ a.toNat ∧ a.toNat ≤ 0x07f) ∨
        (0x0bd ≤ a.toNat ∧ a.toNat ≤ 0x0bf) ∨ 0x140 ≤ a.toNat) := by
    omega
  · unfold locate
    obtain h | h | h | h | h | h := hc <;> rw [h] <;> rfl
  · obtain ⟨i, hi⟩ := Nat.exists_eq_add_of_le h1
    rw [locate, hi, locationAt_reqPayload (by omega)]
    rfl
  · rw [locate_reserved hr]
    rfl

theorem State.SameRequest.readLocation {s t : State} (h : s.SameRequest t) {l : Location} (hl : l.showsRequest = true) :
    t.readLocation l = s.readLocation l := by
  obtain ⟨htype, hcmd, hplen, hpayload, htimeout⟩ := h
  cases l with
  | ctrl | reserved => rfl
  | reqType => exact htype
  | reqCmd => exact hcmd
  | reqPlen => exact hplen
  | timeoutLow | timeoutHigh => simp only [State.readLocation, htimeout]
  | reqPayload i => simp only [State.readLocation, hpayload]
  | _ => cases hl

-- The operation words (R134, R160, R176)

/-- An operation word reaches neither the transport, the timer nor the host's side, and in `IDLE` not `OVR` (R73). -/
theorem exec_operationWord_keeps {i : Instr} {s t : State} (hp : i.port = .ctrl) (h : exec i s = .next t) :
    t.txlog = s.txlog ∧ t.rxq = s.rxq ∧ t.timer = s.timer ∧ t.hostData = s.hostData ∧ t.inputs = s.inputs ∧
      (s.phase = .idle → t.ovr = s.ovr) := by
  obtain ⟨-, rfl⟩ | ⟨hs, -, rfl⟩ | ⟨-, -, -, rfl⟩ | ⟨-, -, -, rfl⟩ | ⟨-, -, c, -, rfl⟩ | ⟨-, -, rfl⟩ | ⟨-, hp', -⟩ |
    ⟨-, hp', -⟩ | ⟨-, hp', -⟩ | ⟨-, hp', -⟩ := exec_cases h
  · exact ⟨rfl, rfl, rfl, rfl, rfl, fun _ => rfl⟩
  · exact ⟨rfl, rfl, rfl, rfl, rfl, fun hi => absurd hi hs⟩
  · exact ⟨rfl, rfl, rfl, rfl, rfl, fun _ => rfl⟩
  · exact ⟨rfl, rfl, rfl, rfl, rfl, fun _ => rfl⟩
  · exact ⟨rfl, rfl, rfl, rfl, rfl, fun _ => rfl⟩
  · simp
  all_goals exact absurd (hp.symm.trans hp') nofun

/-- Settles O28: beside those elements, an instruction keeps the request registers, and the listed addresses show no others. -/
theorem operationWordsFrame : Obligations.OperationWordsFrame := by
  intro i s t hp h
  obtain ⟨htxlog, hrxq, htimer, hdata, hinputs, hovr⟩ := exec_operationWord_keeps hp h
  exact ⟨htxlog, hrxq, htimer, hdata, hinputs, hovr,
    fun a ha => (exec_sameRequest h).readLocation (showsRequest_of_address ha)⟩

end Sys2Proof.Machine
end

section
/-! PROOFS. The family of the packet decoder (41_packet_decoder.md): the checks of `decode` after the size (R154 to R157), the
sum of a changed byte (R166), `DECODE` on the held delivery (R160), a received frame inside a transaction (R164, R186), and the
obligations about them. -/

namespace Sys2Proof.Machine

-- A delivery that passes the shape checks (R154 to R157)

theorem lenEdgeValue_eq_true {len : Nat} : lenEdgeValue len = true ↔ len = 0 ∨ len = 62 ∨ len = 63 := by
  simp [lenEdgeValue, or_assoc]

theorem lt_of_lenEdgeValue {len : Nat} (h : lenEdgeValue len = true) : len < 64 := by
  rw [lenEdgeValue_eq_true] at h
  omega

/-- The length-field check of a delivery of 64 bytes passes: the field is below 64 (R153), and under `reject` it is no edge value
(R157). -/
def LenFieldPasses (policy : LenEdgePolicy) (len : Nat) : Prop :=
  len < 64 ∧ ¬(lenEdgeValue len = true ∧ policy = .reject)

theorem lenFieldPasses_of_ordinary {len : Nat} (policy : LenEdgePolicy) (h1 : 1 ≤ len) (h61 : len ≤ 61) :
    LenFieldPasses policy len := by
  rw [LenFieldPasses, lenEdgeValue_eq_true]
  omega

theorem lenFieldPasses_of_clamp {len : Nat} (h : len < 64) : LenFieldPasses .clamp len :=
  ⟨h, fun ⟨_, hreject⟩ => nomatch hreject⟩

section
variable {policy : LenEdgePolicy} {d : Delivery}

/-- After the shape checks the sum of all the bytes decides alone (R154, R165). -/
theorem packetDecode_of_lenFieldPasses (hsize : d.length = 64) (h : LenFieldPasses policy (d.getD 1 0).toNat) :
    packetDecode policy d = if sum8 d = 0 then .ok (packetFields d) else .checksumError := by
  obtain ⟨hfield, hedge⟩ := h
  rw [packetDecode, if_neg (not_not.mpr hsize), if_neg (Nat.not_le.mpr hfield), if_neg hedge, ite_not]

/-- Under `reject` an edge value of the length field is reported before the sum is looked at (R157). -/
theorem packetDecode_reject_of_edge (hsize : d.length = 64) (hedge : lenEdgeValue (d.getD 1 0).toNat = true) :
    packetDecode .reject d = .frameLengthError .lenEdge := by
  rw [packetDecode, if_neg (not_not.mpr hsize), if_neg (Nat.not_le.mpr (lt_of_lenEdgeValue hedge)), if_pos ⟨hedge, rfl⟩]

/-- An accepted delivery has passed every check. -/
theorem checks_of_packetDecode_ok {p : Packet} (h : packetDecode policy d = .ok p) :
    d.length = 64 ∧ LenFieldPasses policy (d.getD 1 0).toNat ∧ sum8 d = 0 := by
  obtain ⟨-, he⟩ | ⟨-, -, he⟩ | ⟨-, -, -, -, he⟩ | ⟨-, -, -, -, he⟩ | ⟨hsize, hfield, hedge, hsum, -⟩ :=
    packetDecode_cases policy d
  case inr.inr.inr.inr => exact ⟨hsize, ⟨hfield, hedge⟩, hsum⟩
  all_goals exact absurd (h.symm.trans he) nofun

/-- The payload of a 64-byte delivery: `L - 1` bytes from offset 3 on, as far as the frame goes (R156, R157). -/
theorem packetFields_payload (hsize : d.length = 64) :
    (packetFields d).payload = (d.drop 3).take ((d.getD 1 0).toNat - 1) := by
  simp only [packetFields, slice, Config.hdrLen, Config.frameLen, List.drop_take, List.take_eq_take_iff, List.length_drop,
    hsize]
  omega

/-- The fields of a 64-byte delivery (R155, R156). -/
theorem packetFields_eq (hsize : d.length = 64) :
    packetFields d =
      { type := d.getD 0 0, ack := !(d.getD 2 0).msb, command := (d.getD 2 0).setWidth 7,
        payload := (d.drop 3).take ((d.getD 1 0).toNat - 1) } := by
  rw [← packetFields_payload hsize]
  rfl

end

/-- Settles O11: a length field of 1 to 61 passes the shape checks under either policy. -/
theorem ordinaryFrameIsDecidedByItsSum : Obligations.OrdinaryFrameIsDecidedByItsSum := by
  intro policy d hsize h1 h61
  rw [packetDecode_of_lenFieldPasses hsize (lenFieldPasses_of_ordinary policy h1 h61), packetFields_eq hsize]

-- The edge values of the length field (R114, R157), in the 8 bits of a delivery's byte and the 6 bits of a response's operand

section
variable {w : Nat} {len : BitVec w}

theorem lenEdgeValue_toNat (hw : 6 ≤ w) (h : len = 0 ∨ len = 62 ∨ len = 63) : lenEdgeValue len.toNat = true := by
  have hpow : 2 ^ 6 ≤ 2 ^ w := Nat.pow_le_pow_right (by decide) hw
  rw [lenEdgeValue_eq_true]
  obtain rfl | rfl | rfl := h
  · exact .inl (Nat.zero_mod _)
  · exact .inr (.inl (Nat.mod_eq_of_lt (show 62 < 2 ^ w by omega)))
  · exact .inr (.inr (Nat.mod_eq_of_lt (show 63 < 2 ^ w by omega)))

/-- What an edge value cuts from 61 bytes: nothing for 0, all of them for 62 and 63 (R157). -/
theorem take_of_lenEdgeValue {bytes : List Byte} (h : lenEdgeValue len.toNat = true) (hbytes : bytes.length = 61) :
    bytes.take (len.toNat - 1) = if len = 0 then [] else bytes := by
  rw [lenEdgeValue_eq_true] at h
  split
  next h0 => simp [h0]
  next h0 =>
    have hpos : len.toNat ≠ 0 := fun hz => h0 (BitVec.eq_of_toNat_eq (hz.trans (Nat.zero_mod _).symm))
    exact List.take_of_length_le (by omega)

end

/-- Settles O10: the three values are edge values, which `reject` reports and `clamp` lets pass. -/
theorem lengthEdgeByPolicy : Obligations.LengthEdgeByPolicy := by
  intro d hsize h
  have hedge := lenEdgeValue_toNat (by decide) h
  have hfield := lt_of_lenEdgeValue hedge
  have hclamp := packetDecode_of_lenFieldPasses hsize (lenFieldPasses_of_clamp hfield)
  rw [packetFields_eq hsize, take_of_lenEdgeValue hedge (by simp [hsize])] at hclamp
  exact ⟨packetDecode_reject_of_edge hsize hedge, fun hsum => hclamp.trans (if_neg hsum),
    fun hsum => hclamp.trans (if_pos hsum)⟩

-- One changed byte (R166)

section
variable {d : Delivery} {i : Nat} {b : Byte}

theorem sumNat_set (h : i < d.length) : sumNat (d.set i b) + (d.getD i 0).toNat = sumNat d + b.toNat := by
  induction d generalizing i with
  | nil => cases h
  | cons x xs ih =>
    cases i with
    | zero =>
      rw [List.set_cons_zero, List.getD_cons_zero, sumNat_cons, sumNat_cons]
      omega
    | succ i =>
      have hxs := ih (Nat.lt_of_succ_lt_succ h)
      rw [List.set_cons_succ, List.getD_cons_succ, sumNat_cons, sumNat_cons]
      omega

/-- Two bytes that differ do not differ by a multiple of 256, so that the sum sees the change. -/
theorem sum8_set_ne (h : i < d.length) (hb : b ≠ d.getD i 0) : sum8 (d.set i b) ≠ sum8 d := by
  have hset := sumNat_set (b := b) h
  have hne := BitVec.toNat_ne.mp hb
  have hlt := b.isLt
  have hlt' := (d.getD i 0).isLt
  unfold sum8
  omega

theorem getD_set_of_ne {j : Nat} (h : i ≠ j) : (d.set i b).getD j 0 = d.getD j 0 := by
  simp [List.getD, List.getElem?_set_ne h]

/-- Only at byte 1 can a change break the shape of an accepted delivery. -/
theorem eq_one_of_shape_broken {policy : LenEdgePolicy} {p : Packet} {e : ShapeError} (h : packetDecode policy d = .ok p)
    (hset : packetDecode policy (d.set i b) = .frameLengthError e) : i = 1 := by
  by_contra hi
  obtain ⟨hsize, hpass, -⟩ := checks_of_packetDecode_ok h
  rw [← getD_set_of_ne (b := b) hi] at hpass
  rw [packetDecode_of_lenFieldPasses (List.length_set.trans hsize) hpass] at hset
  split at hset <;> cases hset

end

/-- Settles O12: by the result on the changed delivery, which cannot be a packet, as its sum is not that of the accepted one. -/
theorem oneChangedByteIsCaught : Obligations.OneChangedByteIsCaught := by
  intro policy d p i b h hi hb
  obtain ⟨hsize, -, hsum⟩ := checks_of_packetDecode_ok h
  cases hset : packetDecode policy (d.set i b) with
  | ok q =>
    obtain ⟨-, -, hsum'⟩ := checks_of_packetDecode_ok hset
    exact absurd (hsum'.trans hsum.symm) (sum8_set_ne (hsize ▸ hi) hb)
  | checksumError => exact .inl rfl
  | frameLengthError e => exact .inr ⟨eq_one_of_shape_broken h hset, e, rfl⟩

-- `DECODE` on the held delivery (R160 to R163)

/-- `decode` sees the length of a delivery and its first 64 bytes, and nothing else (R151, R160). -/
theorem packetDecode_congr {d d' : Delivery} (policy : LenEdgePolicy) (hlen : d.length = d'.length)
    (htake : d.take 64 = d'.take 64) : packetDecode policy d = packetDecode policy d' := by
  by_cases hsize : d.length = 64
  · rw [List.take_of_length_le hsize.le, List.take_of_length_le (hlen ▸ hsize.le)] at htake
    rw [htake]
  · obtain ⟨hd, -⟩ := illegalShapeIsRejected policy d
    obtain ⟨hd', -⟩ := illegalShapeIsRejected policy d'
    rw [hd hsize, hd' (hlen ▸ hsize)]

theorem State.heldDelivery_length (s : State) : s.heldDelivery.length = s.rxCount.toNat := by
  simp [State.heldDelivery]
  omega

theorem State.heldDelivery_take (s : State) : s.heldDelivery.take 64 = s.rxbuf.toList.take s.rxCount.toNat := by
  obtain h | h := le_or_gt s.rxCount.toNat 64
  · rw [State.heldDelivery, Nat.sub_eq_zero_of_le h, List.replicate_zero, List.append_nil, List.take_take, min_eq_right h]
  · exact List.take_left' (by simpa using h.le)

theorem State.packetDecode_heldDelivery {s : State} {d : Delivery} (hlen : d.length = s.rxCount.toNat)
    (htake : d.take 64 = s.rxbuf.toList.take s.rxCount.toNat) (policy : LenEdgePolicy) :
    packetDecode policy s.heldDelivery = packetDecode policy d :=
  packetDecode_congr policy (s.heldDelivery_length.trans hlen.symm) (s.heldDelivery_take.trans htake.symm)

theorem exec_decode_of_idle {s : State} (hs : s.phase = .idle) :
    exec .decode s = .next (s.clearResponse.reportDecoded (packetDecode Config.lenEdgePolicy s.heldDelivery)) :=
  if_neg (by simp [s.busy_eq_false.mpr hs])

/-- Settles O17: the held delivery decodes as the given one, and the report is read off by the kind of the result. -/
theorem decodeReportsTheHeldDelivery : Obligations.DecodeReportsTheHeldDelivery := by
  intro s d hs hlen htake
  rw [exec_decode_of_idle hs, State.packetDecode_heldDelivery hlen htake]
  refine ⟨fun p h => ?_, fun h => ?_, fun e h => ?_⟩
  · rw [h, State.reportDecoded_ok]
    rfl
  · rw [h, State.reportDecoded_checksumError]
    rfl
  · rw [h, State.reportDecoded_frameLengthError]
    cases e <;> rfl

-- A received frame in `WAIT` (R184, R186)

theorem encode_length_of_port_receive {i : Instr} (h : i.port = .receive) : (encode i).length = 64 := by
  cases i with
  | rspAck type len cmd body | rspNack type len cmd body | illegalLen64To127 type len cmd body
  | illegalLen128To255 type len cmd body => simp [encode]
  | _ => cases h

/-- The state in which a frame of 64 bytes has been taken and not yet classified (R40, R41, R184). -/
def State.loadFrame (bytes : List Byte) (s : State) : State :=
  { s with rxCount := 64, rxbuf := frameOf bytes }

theorem State.loadDelivery_of_frame {d : Delivery} (h : d.length = 64) (s : State) : s.loadDelivery d = s.loadFrame d := by
  rw [State.loadDelivery, h]
  rfl

/-- In `WAIT` a received frame is recorded and classified by what `decode` gives on its bytes (R184, R186). -/
theorem exec_of_wait {i : Instr} {s : State} (hp : i.port = .receive) (hs : s.phase = .wait) :
    exec i s = .next ((s.loadFrame (encode i)).classify (packetDecode Config.lenEdgePolicy (encode i))) := by
  have hlen := encode_length_of_port_receive hp
  have hne : encode i ≠ [] := by
    rw [← List.length_pos_iff, hlen]
    decide
  rw [exec_of_port_receive hp, State.receive_of_wait hs, State.takeDelivery_of_ne_nil hne, State.loadDelivery_of_frame hlen]

/-- A received frame with a length field of 64 or more ends the transaction by it, whatever its sum (R153, R164). -/
theorem exec_of_illegalLen {i : Instr} {s : State} (hp : i.port = .receive) (hs : s.phase = .wait)
    (hfield : 64 ≤ ((encode i).getD 1 0).toNat) :
    exec i s = .next ((s.loadFrame (encode i)).finish .frameLengthError .lenField) := by
  obtain ⟨-, hdec⟩ := illegalShapeIsRejected Config.lenEdgePolicy (encode i)
  rw [exec_of_wait hp hs, hdec (encode_length_of_port_receive hp) hfield]
  rfl

theorem le_toNat_or (a b : Byte) : b.toNat ≤ (a ||| b).toNat := by
  rw [BitVec.toNat_or]
  exact Nat.right_le_or

/-- Settles O25: the bit that each class sets in its length field makes it 64 or more. -/
theorem illegalLengthEndsTheTransaction : Obligations.IllegalLengthEndsTheTransaction :=
  fun _ _ l6 l7 _ _ hs => ⟨exec_of_illegalLen rfl hs (le_toNat_or (l6.setWidth 8) 0x40),
    exec_of_illegalLen rfl hs (Nat.le_trans (by decide) (le_toNat_or (l7.setWidth 8) 0x80))⟩

-- The two classes of response (R99, R102)

/-- The response with the given ack flag: `RSP.ACK` or `RSP.NACK` (R99). -/
def response (ack : Bool) (type : Byte) (len : BitVec 6) (cmd : BitVec 7) (body : FrameBody) : Instr :=
  if ack then .rspAck type len cmd body else .rspNack type len cmd body

section
variable (ack : Bool) (type : Byte) (len : BitVec 6) (cmd : BitVec 7) (body : FrameBody)

theorem response_port : (response ack type len cmd body).port = .receive := by
  cases ack <;> rfl

theorem response_lenField : ((encode (response ack type len cmd body)).getD 1 0).toNat = len.toNat := by
  have hlen : (encode (response ack type len cmd body)).getD 1 0 = len.setWidth 8 := by
    cases ack <;> rfl
  rw [hlen, BitVec.toNat_setWidth_of_le (by decide)]

/-- The fields of a response are its operands; its payload is what the length field says, at most all 61 bytes (R155 to R157). -/
theorem packetFields_response :
    packetFields (encode (response ack type len cmd body)) =
      { type, ack, command := cmd, payload := body.toList.take (len.toNat - 1) } := by
  rw [packetFields_eq (encode_length_of_port_receive (response_port ack type len cmd body)), response_lenField]
  cases ack <;> simp [response, encode, msb_eq_bit7]

end

section
variable {s : State} {ack : Bool} {type : Byte} {len : BitVec 6} {cmd : BitVec 7} {body : FrameBody}

/-- In `WAIT` a response whose length field passes is classified by its sum (R154, R186). -/
theorem exec_response (hs : s.phase = .wait) (h : LenFieldPasses Config.lenEdgePolicy len.toNat) :
    exec (response ack type len cmd body) s = .next
      ((s.loadFrame (encode (response ack type len cmd body))).classify
        (if sum8 (encode (response ack type len cmd body)) = 0 then
          .ok { type, ack, command := cmd, payload := body.toList.take (len.toNat - 1) }
        else .checksumError)) := by
  have hp := response_port ack type len cmd body
  rw [exec_of_wait hp hs, packetDecode_of_lenFieldPasses (encode_length_of_port_receive hp)
    (by rwa [response_lenField]), packetFields_response]

/-- With a good sum the response's operands are its fields (R155, R158, R186). -/
theorem exec_response_of_goodSum (hs : s.phase = .wait) (h : LenFieldPasses Config.lenEdgePolicy len.toNat)
    {payload : List Byte} (hpayload : body.toList.take (len.toNat - 1) = payload)
    (hsum : sum8 (encode (response ack type len cmd body)) = 0) :
    exec (response ack type len cmd body) s = .next
      (((s.loadFrame (encode (response ack type len cmd body))).writeResponse { type, ack, command := cmd, payload }).finish
        (if ack then .ack else .nack) .none) := by
  rw [exec_response hs h, if_pos hsum, hpayload]
  rfl

/-- With a bad sum the transaction ends whatever the nack bit, and no field is written (R159, R186). -/
theorem exec_response_of_badSum (hs : s.phase = .wait) (h : LenFieldPasses Config.lenEdgePolicy len.toNat)
    (hsum : sum8 (encode (response ack type len cmd body)) ≠ 0) :
    exec (response ack type len cmd body) s = .next
      (State.finish .noResponse .checksum
        { s.loadFrame (encode (response ack type len cmd body)) with chkerr := true }) := by
  rw [exec_response hs h, if_neg hsum]
  rfl

/-- Under `reject` an edge value of the length field ends the transaction before the sum is looked at (R157, R164). -/
theorem exec_response_of_edge (hs : s.phase = .wait) (hpolicy : Config.lenEdgePolicy = .reject)
    (hedge : lenEdgeValue len.toNat = true) :
    exec (response ack type len cmd body) s = .next
      ((s.loadFrame (encode (response ack type len cmd body))).finish .frameLengthError .lenEdge) := by
  have hp := response_port ack type len cmd body
  rw [exec_of_wait hp hs, hpolicy, packetDecode_reject_of_edge (encode_length_of_port_receive hp)
    (by rwa [response_lenField])]
  rfl

end

/-- Settles O22: `RSP.ACK` and `RSP.NACK` are the two responses, and their length field counts their payload. -/
theorem responseEndsTheTransaction : Obligations.ResponseEndsTheTransaction := by
  intro s type len cmd body hs h1 h61
  have hpass := lenFieldPasses_of_ordinary Config.lenEdgePolicy h1 h61
  have hlen : (body.toList.take (len.toNat - 1)).length = len.toNat - 1 := by
    simp
    omega
  have hgood := fun ack => exec_response_of_goodSum (ack := ack) (type := type) (cmd := cmd) (body := body) hs hpass rfl
  simp only [State.writeResponse, hlen] at hgood
  exact ⟨hgood true, hgood false⟩

/-- Settles O23: a bad sum is reported for the two responses alike. -/
theorem badSumEndsTheTransaction : Obligations.BadSumEndsTheTransaction := by
  intro s type len cmd body i hs h1 h61 hi hsum
  have hpass := lenFieldPasses_of_ordinary Config.lenEdgePolicy h1 h61
  obtain rfl | rfl := hi
  · exact exec_response_of_badSum (ack := true) hs hpass hsum
  · exact exec_response_of_badSum (ack := false) hs hpass hsum

/-- Settles O24: by the policy, and where it is not `reject` by the sum. -/
theorem lengthEdgeEndsTheTransaction : Obligations.LengthEdgeEndsTheTransaction := by
  intro s type len cmd body ack hs h i payload
  have hedge := lenEdgeValue_toNat le_rfl h
  by_cases hpolicy : Config.lenEdgePolicy = .reject
  · rw [if_pos hpolicy]
    exact exec_response_of_edge hs hpolicy hedge
  · rw [if_neg hpolicy]
    have hpass : LenFieldPasses Config.lenEdgePolicy len.toNat := ⟨len.isLt, fun ⟨_, hreject⟩ => hpolicy hreject⟩
    by_cases hsum : sum8 (encode i) = 0
    · rw [if_pos hsum]
      exact exec_response_of_goodSum hs hpass (take_of_lenEdgeValue hedge body.length_toList) hsum
    · rw [if_neg hsum]
      exact exec_response_of_badSum hs hpass hsum

end Sys2Proof.Machine
end

section
/-! PROOFS. The family of the transaction controller (42_transaction.md): the start (R176), the request frames and the send step
(R181, R182), the received frames and the take step (R184 to R186), the tick and the expiries (R187 to R191), the movements of
`PHASE` (R196), the results in `IDLE` (R197), the end of a wait (R199), and the obligations about them. -/

namespace Sys2Proof.Machine

-- The start (R176)

/-- Settles O14: a legal request passes the check, and the start is one update of the state. -/
theorem transactStarts : Obligations.TransactStarts := by
  intro s hs hplen hcmd
  rw [exec_transact_of_idle hs, State.withCheckedRequest_of_legal (State.requestCause_of_legal hplen hcmd)]
  rfl

-- The request frames and the send step (R80, R181, R182)

theorem encode_length_of_port_transmit {i : Instr} (h : i.port = .transmit) : (encode i).length = 64 := by
  cases i with
  | nop | transact | encode | decode | rspAck | rspNack | illegalLen64To127 | illegalLen128To255 => cases h
  | _ => simp [encode]

/-- The frame of a request instruction holds its bytes and no others. -/
theorem frameOf_encode_toList {i : Instr} (h : i.port = .transmit) : (frameOf (encode i)).toList = encode i :=
  fit_toList_of_length (encode_length_of_port_transmit h)

/-- Settles O20: in `SEND` the frame of the instruction's own bytes goes out. -/
theorem requestFrameIsSent : Obligations.RequestFrameIsSent := by
  intro s hs
  refine ⟨fun i hp => ⟨frameOf (encode i), frameOf_encode_toList hp, ?_⟩, fun _ _ _ _ => rfl,
    fun _ _ => ⟨rfl, rfl, rfl, rfl, rfl, rfl, rfl, rfl, rfl, rfl, rfl, rfl⟩⟩
  rw [exec_of_port_transmit hp, State.transmit_of_send hs]
  rfl

/-- Settles O39: the send step transmits `TXBUF`, and only in `SEND` does a frame go out. -/
theorem sendStepSendsTxbuf : Obligations.SendStepSendsTxbuf := by
  intro s
  refine (sendStep_eq s).trans (congrArg _ ?_)
  split
  next hs => exact State.transmit_of_send hs _
  next hs => exact State.transmit_of_not_send hs _

-- What the frames leave as it was (R26, R39, R181, R184)

/-- A frame that goes out changes, of the window, `STATUS` and `PHASE` alone. -/
theorem State.readLocation_sendFrame {l : Location} (hstatus : l ≠ .status) (hphase : l ≠ .phase) (f : Frame) (s : State) :
    (s.sendFrame f).readLocation l = s.readLocation l := by
  cases l with
  | status => exact absurd rfl hstatus
  | phase => exact absurd rfl hphase
  | _ => rfl

theorem eq_phase_address {a : BitVec 9} (h : locate a = .phase) : a = 0x007 :=
  locate_injective (b := 0x007) h (by rw [h]; decide)

/-- A request frame writes the timer, `PHASE` and `TXLOG` only. -/
theorem State.transmit_keeps (f : Frame) (s : State) :
    (s.transmit f).rxq = s.rxq ∧ (s.transmit f).done = s.done ∧ (s.transmit f).chkerr = s.chkerr ∧
    (s.transmit f).ovr = s.ovr ∧ (s.transmit f).hostData = s.hostData ∧ (s.transmit f).inputs = s.inputs ∧
    ∀ a : BitVec 9, a ≠ 0x001 → a ≠ 0x007 → (s.transmit f).windowRead a = s.windowRead a := by
  by_cases hs : s.phase = .send
  · rw [State.transmit_of_send hs]
    exact ⟨rfl, rfl, rfl, rfl, rfl, rfl, fun a hstatus hphase =>
      State.readLocation_sendFrame (mt eq_status_address hstatus) (mt eq_phase_address hphase) f s⟩
  · rw [State.transmit_of_not_send hs]
    exact ⟨rfl, rfl, rfl, rfl, rfl, rfl, fun _ _ _ => rfl⟩

/-- A received frame reaches neither `TXLOG`, the timer, `OVR`, the host's side nor `TXBUF`. -/
theorem State.receive_keeps (d : Delivery) (s : State) :
    (s.receive d).txlog = s.txlog ∧ (s.receive d).timer = s.timer ∧ (s.receive d).ovr = s.ovr ∧
    (s.receive d).hostData = s.hostData ∧ (s.receive d).inputs = s.inputs ∧ (s.receive d).txbuf = s.txbuf := by
  by_cases hs : s.phase = .wait
  · simp [State.receive_of_wait hs]
  · simp [State.receive_of_not_wait hs]

/-- Where the request registers and `TXBUF` are the same, the addresses that show them read the same. -/
theorem State.SameRequest.windowRead {s t : State} (h : s.SameRequest t) (htx : t.txbuf = s.txbuf) {a : BitVec 9}
    (ha : a.toNat = 0x000 ∨ (0x004 ≤ a.toNat ∧ a.toNat ≤ 0x006) ∨ (0x008 ≤ a.toNat ∧ a.toNat ≤ 0x009) ∨
      (0x00f ≤ a.toNat ∧ a.toNat < 0x080) ∨ (0x0bd ≤ a.toNat ∧ a.toNat < 0x100) ∨ 0x140 ≤ a.toNat) :
    t.windowRead a = s.windowRead a := by
  by_cases hbuf : 0x0c0 ≤ a.toNat ∧ a.toNat < 0x100
  · obtain ⟨i, hi⟩ := Nat.exists_eq_add_of_le hbuf.1
    rw [State.windowRead, State.windowRead, locate, hi, locationAt_txbuf (by omega)]
    simp only [State.readLocation, htx]
  · exact h.readLocation (showsRequest_of_address (by omega))

/-- Settles O29: a request frame is transmitted, a received one keeps the request registers and `TXBUF`. -/
theorem framesFrame : Obligations.FramesFrame := by
  intro i s t h
  refine ⟨fun hp => ?_, fun hp => ?_⟩
  · cases (exec_of_port_transmit hp s).symm.trans h
    exact State.transmit_keeps _ s
  · have hsame := exec_sameRequest h
    cases (exec_of_port_receive hp s).symm.trans h
    obtain ⟨htxlog, htimer, hovr, hdata, hinputs, htx⟩ := State.receive_keeps (encode i) s
    exact ⟨htxlog, htimer, hovr, hdata, hinputs, fun a ha => hsame.windowRead htx ha⟩

-- The take step (R172, R184 to R186)

/-- The length of a delivery that `RX_COUNT` can hold is recorded as it is (R41). -/
theorem State.loadDelivery_of_length_le {d : Delivery} (h : d.length ≤ 255) (s : State) :
    s.loadDelivery d = { s with rxCount := BitVec.ofNat 8 d.length, rxbuf := fit 64 d } := by
  rw [State.loadDelivery, min_eq_left h]

theorem takeStep_of_not_enabled {s : State} (h : s.phase ≠ .wait ∨ s.rxq = []) : takeStep s = .next s := by
  obtain ⟨d, ds, hw, hq, -⟩ | ⟨-, ht⟩ := takeStep_cases s
  · simp [hw, hq] at h
  · exact ht

theorem State.takeDelivery_of_shapeError {d : Delivery} {e : ShapeError} (hd : d ≠ [])
    (h : packetDecode Config.lenEdgePolicy d = .frameLengthError e) (s : State) :
    s.takeDelivery d = (s.loadDelivery d).finish .frameLengthError e.cause := by
  rw [State.takeDelivery_of_ne_nil hd, h, State.classify_frameLengthError]

theorem State.takeDelivery_of_badSum {d : Delivery} (h : packetDecode Config.lenEdgePolicy d = .checksumError) (s : State) :
    s.takeDelivery d = State.finish .noResponse .checksum { s.loadDelivery d with chkerr := true } := by
  have hd : d ≠ [] := by
    rintro rfl
    cases h
  rw [State.takeDelivery_of_ne_nil hd, h, State.classify_checksumError]

/-- Settles O40: the head of the queue is taken, by the result of `decode` on it. -/
theorem takeStepClassifies : Obligations.TakeStepClassifies := by
  refine fun s => ⟨takeStep_of_not_enabled, ?_⟩
  intro d ds hw hq hlen t
  have htake : performMove (.engine .take) s = .next (State.takeDelivery d { s with rxq := ds }) :=
    takeStep_of_head hw hq
  rw [htake]
  refine ⟨fun hd => ?_, fun e hd h => ?_, fun h => ?_, fun p h => ?_⟩
  · subst hd
    rfl
  · rw [State.takeDelivery_of_shapeError hd h, State.loadDelivery_of_length_le hlen]
    cases e <;> rfl
  · rw [State.takeDelivery_of_badSum h, State.loadDelivery_of_length_le hlen]
    rfl
  · rw [State.takeDelivery_of_packet h, State.loadDelivery_of_length_le hlen]
    rfl

-- The tick and the expiries (R187, R188, R190, R191)

theorem State.tick_eq (s : State) :
    s.tick = if s.phase = .wait ∧ 0 < s.timer.toNat then { s with timer := s.timer - 1 } else s := by
  have hpos : 0 < s.timer.toNat ↔ s.timer ≠ 0 := by bv_omega
  simp only [State.tick, hpos]

theorem State.expire_eq (s : State) :
    s.expire = if s.phase = .wait ∧ s.timer = 0 ∧ s.rxq = [] then s.finish .noResponse .timeout else s := by
  obtain ⟨hw, hq, h0, he⟩ | ⟨hno, he⟩ := s.expire_cases
  · rw [he, if_pos ⟨hw, h0, hq⟩]
  · rw [he, if_neg fun ⟨hw, h0, hq⟩ => hno ⟨hw, hq, h0⟩]

theorem State.expireUntimed_eq (s : State) :
    s.expireUntimed = if s.phase = .wait ∧ s.rxq = [] then s.finish .noResponse .timeout else s := by
  simp only [State.expireUntimed, s.nothingToTake_eq_true]

/-- Settles O41: each of the three steps is enabled by its condition, and else changes nothing. -/
theorem tickAndExpiry : Obligations.TickAndExpiry :=
  fun s => ⟨congrArg Host.Outcome.next s.tick_eq, congrArg Host.Outcome.next s.expire_eq,
    congrArg Host.Outcome.next s.expireUntimed_eq⟩

-- The movements of `PHASE` (R196)

theorem State.takeDelivery_result (d : Delivery) (s : State) : (s.takeDelivery d).result ≠ .none := by
  obtain ⟨p, -, h⟩ | ⟨-, h⟩ | ⟨e, -, -, h⟩ | ⟨-, h⟩ := s.takeDelivery_cases d <;> rw [h]
  · rw [State.finish_result, Packet.result]
    split <;> nofun
  all_goals nofun

/-- The move makes the engine's step, alone or beside a host write to `STATUS` (R76). -/
def Move.IsStepOf (m : Move) (e : EngineMove) : Prop :=
  m = .engine e ∨ ∃ v, m = .statusWriteWith v e

/-- The move starts a transaction (R176). -/
def Move.Starts (m : Move) (s t : State) : Prop :=
  s.phase = .idle ∧ t.phase = .send ∧ s.requestCause = none ∧ m = .write 0x000 0x01

/-- The move makes the transport take the offered frame (R181). -/
def Move.Sends (m : Move) (s t : State) : Prop :=
  s.phase = .send ∧ t.phase = .wait ∧ m.IsStepOf .send ∧ t.txlog = s.txlog ++ [s.txbuf]

/-- The move ends a wait with a result: by a taken delivery or by one of the two expiries (R184, R188, R190). -/
def Move.Ends (m : Move) (s t : State) : Prop :=
  s.phase = .wait ∧ t.phase = .idle ∧ t.done = true ∧ t.result ≠ .none ∧
    ((m.IsStepOf .take ∧ ∃ d, s.rxq = d :: t.rxq) ∨
     (m.IsStepOf .expire ∧ s.timer = 0 ∧ s.rxq = [] ∧ t.result = .noResponse ∧ t.cause = .timeout) ∨
     (m.IsStepOf .expireUntimed ∧ s.rxq = [] ∧ t.result = .noResponse ∧ t.cause = .timeout))

/-- One of the movements of R196, or the reset. -/
def Move.MovesPhase (m : Move) (s t : State) : Prop :=
  m.Starts s t ∨ m.Sends s t ∨ m.Ends s t ∨ (t.phase = .idle ∧ ∃ taken, m = .reset taken)

theorem engineMove_movesPhase {m : Move} {e : EngineMove} {s t : State} (hm : m.IsStepOf e)
    (h : engineMove e s = .next t) (hne : t.phase ≠ s.phase) : m.MovesPhase s t := by
  obtain rfl | ⟨rfl, hs, rfl⟩ | ⟨rfl, hw, d, ds, hq, rfl⟩ | ⟨-, -, -, rfl⟩ | ⟨he, hw, hq, rfl⟩ := engineMove_next h
  · exact absurd rfl hne
  · exact .inr (.inl ⟨hs, rfl, hm, rfl⟩)
  · obtain ⟨hphase, hdone⟩ := State.takeDelivery_ends d { s with rxq := ds }
    exact .inr (.inr (.inl ⟨hw, hphase, hdone, State.takeDelivery_result d _, .inl ⟨hm, d, by simp [hq]⟩⟩))
  · exact absurd rfl hne
  · obtain ⟨rfl, h0⟩ | rfl := he
    · exact .inr (.inr (.inl ⟨hw, rfl, rfl, nofun, .inr (.inl ⟨hm, h0, hq, rfl, rfl⟩)⟩))
    · exact .inr (.inr (.inl ⟨hw, rfl, rfl, nofun, .inr (.inr ⟨hm, hq, rfl, rfl⟩)⟩))

theorem eq_ctrl_address {a : BitVec 9} (h : locate a = .ctrl) : a = 0x000 :=
  locate_injective (b := 0x000) h (by rw [h]; decide)

/-- Of the words of `CTRL` only `TRANSACT` moves `PHASE`, on a legal request in `IDLE`. -/
theorem writeCtrl_starts {v : Byte} {s t : State} (h : writeCtrl v s = .next t) (hne : t.phase ≠ s.phase) :
    v = 0x01 ∧ s.phase = .idle ∧ s.requestCause = none ∧ t = s.startTransaction := by
  obtain ⟨-, rfl⟩ | ⟨-, -, rfl⟩ | hstart | ⟨-, -, -, rfl⟩ | ⟨-, -, c, -, rfl⟩ | ⟨-, -, rfl⟩ | ⟨-, -, rfl⟩ := writeCtrl_next h
  case inr.inr.inl => exact hstart
  all_goals simp at hne

theorem hostWrite_movesPhase {a : BitVec 9} {v : Byte} {s t : State} (h : hostWrite a v s = .next t)
    (hne : t.phase ≠ s.phase) : (Move.write a v).MovesPhase s t := by
  obtain ⟨ha, hw⟩ | ⟨-, rfl⟩ | ⟨-, -, rfl⟩ | ⟨-, -, rfl⟩ | rfl := hostWrite_next h
  · obtain ⟨rfl, hs, hreq, rfl⟩ := writeCtrl_starts hw hne
    exact .inl ⟨hs, rfl, hreq, by rw [eq_ctrl_address ha]⟩
  all_goals simp at hne

theorem performMove_movesPhase {m : Move} {s t : State} (h : performMove m s = .next t) (hne : t.phase ≠ s.phase) :
    m.MovesPhase s t := by
  obtain rfl | ⟨a, -, rfl⟩ | ⟨a, v, rfl, hw⟩ | ⟨e, rfl, he⟩ | ⟨v, e, rfl, he⟩ | ⟨d, -, rfl⟩ | ⟨taken, rfl, rfl⟩ :=
    performMove_next h
  · exact absurd rfl hne
  · exact absurd rfl hne
  · exact hostWrite_movesPhase hw hne
  · exact engineMove_movesPhase (.inl rfl) he hne
  · exact engineMove_movesPhase (s := s.writeStatus v) (.inr ⟨v, rfl⟩) he hne
  · exact absurd rfl hne
  · exact .inr (.inr (.inr ⟨rfl, taken, rfl⟩))

/-- Settles O47: what the step's move, the pending or the quiet one, does to `PHASE`. -/
theorem phaseMovesByTheTable : Obligations.PhaseMovesByTheTable := by
  intro s t h hne
  obtain ⟨m, ms, hin, hm⟩ | ⟨hin, hm⟩ := step_next h
  · rw [hin]
    exact performMove_movesPhase (s := { s with inputs := ms }) hm hne
  · rw [hin]
    exact performMove_movesPhase hm hne

-- The results in `IDLE` (R75, R197)

/-- What an operation leaves for the host is the same in `t` as in `s`: the report, the response registers, the delivery record
and `TXBUF`. -/
def State.SameResults (s t : State) : Prop :=
  t.result = s.result ∧ t.cause = s.cause ∧ t.rspType = s.rspType ∧ t.rspCmd = s.rspCmd ∧ t.rspAck = s.rspAck ∧
    t.rspPlen = s.rspPlen ∧ t.rspPayload = s.rspPayload ∧ t.rxbuf = s.rxbuf ∧ t.rxCount = s.rxCount ∧ t.txbuf = s.txbuf

theorem State.SameResults.refl (s : State) : s.SameResults s :=
  ⟨rfl, rfl, rfl, rfl, rfl, rfl, rfl, rfl, rfl, rfl⟩

/-- In `IDLE` no step of the engine, the transport or the timer is enabled (R172). -/
theorem engineMove_of_idle {e : EngineMove} {s t : State} (hs : s.phase = .idle) (h : engineMove e s = .next t) : t = s := by
  obtain rfl | ⟨-, hp, -⟩ | ⟨-, hp, -⟩ | ⟨-, hp, -⟩ | ⟨-, hp, -⟩ := engineMove_next h
  · rfl
  all_goals exact absurd (hs.symm.trans hp) nofun

/-- The host's write reaches none of the results: it is no operation but `NOP`, and no write to the delivery record. -/
def KeepsResults (a : BitVec 9) (v : Byte) : Prop :=
  (locate a = .ctrl → v = 0x00) ∧ locate a ≠ .rxCount ∧ ∀ i, locate a ≠ .rxbuf i

theorem State.storeLocation_sameResults {l : Location} (hcount : l ≠ .rxCount) (hbuf : ∀ i, l ≠ .rxbuf i) (v : Byte)
    (s : State) : s.SameResults (s.storeLocation l v) := by
  cases l with
  | rxCount => exact absurd rfl hcount
  | rxbuf i => exact absurd rfl (hbuf i)
  | _ => exact .refl s

theorem hostWrite_sameResults {a : BitVec 9} {v : Byte} {s t : State} (ha : KeepsResults a v)
    (h : hostWrite a v s = .next t) : s.SameResults t := by
  obtain ⟨hctrl, hcount, hbuf⟩ := ha
  obtain ⟨hl, hw⟩ | ⟨-, rfl⟩ | ⟨-, -, rfl⟩ | ⟨-, -, rfl⟩ | rfl := hostWrite_next h
  · rw [hctrl hl] at hw
    cases hw
    exact .refl s
  · exact .refl s
  · exact .refl s
  · exact State.storeLocation_sameResults hcount hbuf v s
  · exact .refl _

theorem performMove_sameResults {m : Move} {s t : State} (hs : s.phase = .idle) (h : performMove m s = .next t)
    (hwrite : ∀ a v, m = .write a v → KeepsResults a v) (hreset : ∀ taken, m ≠ .reset taken) : s.SameResults t := by
  obtain rfl | ⟨a, -, rfl⟩ | ⟨a, v, rfl, hw⟩ | ⟨e, -, he⟩ | ⟨v, e, -, he⟩ | ⟨d, -, rfl⟩ | ⟨taken, rfl, -⟩ :=
    performMove_next h
  · exact .refl _
  · exact .refl s
  · exact hostWrite_sameResults (hwrite a v rfl) hw
  · rw [engineMove_of_idle hs he]
    exact .refl s
  · rw [engineMove_of_idle (s := s.writeStatus v) hs he]
    exact .refl s
  · exact .refl s
  · exact absurd rfl (hreset taken)

/-- Settles O50: the pending move is none of those that the rule names, and the quiet one in `IDLE` is no move at all. -/
theorem resultsStayUntilTheNextOperation : Obligations.ResultsStayUntilTheNextOperation := by
  intro s t hs h hwrite hreset
  obtain ⟨m, ms, hin, hm⟩ | ⟨-, hm⟩ := step_next h
  · simp only [hin, List.head?_cons, ne_eq, Option.some.injEq] at hwrite hreset
    exact performMove_sameResults (s := { s with inputs := ms }) hs hm hwrite hreset
  · obtain ⟨-, hq⟩ | ⟨hw, -⟩ := quietMove_cases s
    · rw [hq] at hm
      cases hm
      exact State.SameResults.refl s
    · exact absurd (hs.symm.trans hw) nofun

-- The end of a wait (R199)

section
variable {s : State}

theorem step_quiet_take {d : Delivery} {ds : List Delivery} (hw : s.phase = .wait) (hin : s.inputs = [])
    (hq : s.rxq = d :: ds) : step s = .next (State.takeDelivery d { s with rxq := ds }) := by
  have hmove : quietMove s = .engine .take := by simp [quietMove, hw, hq]
  rw [step_nil hin, hmove]
  exact takeStep_of_head hw hq

theorem step_quiet_tick (hw : s.phase = .wait) (hin : s.inputs = []) (hq : s.rxq = []) (h0 : s.timer ≠ 0) :
    step s = .next { s with timer := s.timer - 1 } := by
  have hmove : quietMove s = .engine .tick := by
    simp only [quietMove, hw, hq]
    exact if_neg h0
  rw [step_nil hin, hmove]
  exact congrArg _ (if_pos ⟨hw, h0⟩)

theorem step_quiet_expire (hw : s.phase = .wait) (hin : s.inputs = []) (hq : s.rxq = []) (h0 : s.timer = 0) :
    step s = .next (s.finish .noResponse .timeout) := by
  have hmove : quietMove s = .engine .expire := by simp [quietMove, hw, hq, h0]
  rw [step_nil hin, hmove]
  exact congrArg _ (State.expire_of_timeout hw hq h0)

end

/-- With nothing delivered the timer runs down, one tick a step, and the next step is the expiry. -/
theorem run_timeout {n : Nat} {s : State} (hw : s.phase = .wait) (hin : s.inputs = []) (hq : s.rxq = [])
    (hn : s.timer.toNat = n) :
    Host.Core.run core (n + 1) s = .next (State.finish .noResponse .timeout { s with timer := 0 }) := by
  induction n generalizing s with
  | zero =>
    have h0 : s.timer = 0 := BitVec.eq_of_toNat_eq hn
    rw [run_succ (step_quiet_expire hw hin hq h0), ← h0]
    rfl
  | succ n ih =>
    have h0 : s.timer ≠ 0 := by bv_omega
    have hn' : (s.timer - 1).toNat = n := by bv_omega
    rw [run_succ (step_quiet_tick hw hin hq h0)]
    exact ih (s := { s with timer := s.timer - 1 }) hw hin hq hn'

/-- Settles O53: a delivery that waits is taken at once, and without one the timer runs out. -/
theorem waitEndsWithinTheTimer : Obligations.WaitEndsWithinTheTimer := by
  intro s hw hin
  cases hq : s.rxq with
  | nil => exact ⟨_, _, le_rfl, run_timeout hw hin hq rfl, rfl, rfl, nofun⟩
  | cons d ds =>
    obtain ⟨hphase, hdone⟩ := State.takeDelivery_ends d { s with rxq := ds }
    exact ⟨1, _, by omega, run_succ (step_quiet_take hw hin hq) 0, hphase, hdone, State.takeDelivery_result d _⟩

-- One whole transaction (R174)

/-- What the start and the send have written when the reply is taken; the one delivery has left the queue as it was. -/
theorem State.awaitingReply_eq {s : State} (hq : s.rxq = []) (ms : List Move) :
    s.awaitingReply ms = { s with
      inputs := ms, txbuf := s.requestFrame, txlog := s.txlog ++ [s.requestFrame], timer := s.timeoutMs
      rspType := 0, rspCmd := 0, rspAck := false, rspPlen := 0, rspPayload := Vector.replicate 61 0
      rxbuf := Vector.replicate 64 0, rxCount := 0
      result := .none, cause := .none, done := false, phase := .wait } := by
  rw [State.awaitingReply, ← hq]
  rfl

/-- Settles O54: after the start, the send and the delivery, the take ends the transaction by the result of `decode`. -/
theorem transactionIsTheBlockingCall : Obligations.TransactionIsTheBlockingCall := by
  intro s d ms hs hq hplen hcmd hlen hin f t
  refine (run_transaction hs hq (State.requestCause_of_legal hplen hcmd) hin).trans (congrArg _ ?_)
  rw [State.awaitingReply_eq hq]
  by_cases hd : d = []
  · refine Eq.trans ?_ (if_pos hd).symm
    subst hd
    rfl
  · refine Eq.trans ?_ (if_neg hd).symm
    cases h : packetDecode Config.lenEdgePolicy d with
    | frameLengthError e =>
      rw [State.takeDelivery_of_shapeError hd h, State.loadDelivery_of_length_le hlen]
      cases e <;> rfl
    | checksumError =>
      rw [State.takeDelivery_of_badSum h, State.loadDelivery_of_length_le hlen]
      rfl
    | ok p =>
      rw [State.takeDelivery_of_packet h, State.loadDelivery_of_length_le hlen]
      rfl

end Sys2Proof.Machine
end

section
/-! PROOFS. The family of the host sequences (44_host_sequences.md): the chunks of a transfer (R233), what a read gives when every
chunk is acknowledged (R234, R235, R237) and when one is not (R238), the polls of a write (R246, R247), the steps of the downstream
EDID flow (R256 to R261), and the obligations about them. -/

namespace Sys2Proof.Machine

-- The chunks of a transfer (R233)

theorem chunkSizes_sum {total : Nat} (h : 0 < total) (chunk : Nat) : (chunkSizes total chunk).sum = total := by
  have hrest : (if total % chunk = 0 then [] else [total % chunk]).sum = total % chunk := by
    split
    · exact Eq.symm ‹_›
    · exact List.sum_singleton
  rw [chunkSizes_of_pos h, List.sum_append, List.sum_replicate, smul_eq_mul, hrest, Nat.div_add_mod']

theorem chunkSizes_bounds {total chunk n : Nat} (h : 0 < total) (hc : 0 < chunk) (hn : n ∈ chunkSizes total chunk) :
    0 < n ∧ n ≤ chunk := by
  rw [chunkSizes_of_pos h] at hn
  rcases List.mem_append.mp hn with hfull | hrest
  · rw [List.eq_of_mem_replicate hfull]
    exact ⟨hc, le_rfl⟩
  · split at hrest
    · cases hrest
    · rw [List.mem_singleton.mp hrest]
      exact ⟨by omega, (Nat.mod_lt _ hc).le⟩

/-- The rest, if there is one, is the last chunk; every chunk before it is full. -/
theorem eq_of_mem_dropLast_chunkSizes {total chunk n : Nat} (h : 0 < total) (hn : n ∈ (chunkSizes total chunk).dropLast) :
    n = chunk := by
  rw [chunkSizes_of_pos h] at hn
  split at hn
  · rw [List.append_nil] at hn
    exact List.eq_of_mem_replicate (List.mem_of_mem_dropLast hn)
  · rw [List.dropLast_concat] at hn
    exact List.eq_of_mem_replicate hn

/-- Settles O56: full chunks and then the remainder of the division. -/
theorem chunksCoverTheTransfer : Obligations.ChunksCoverTheTransfer := fun _ chunk h hc =>
  ⟨chunkSizes_sum h chunk, fun _ => chunkSizes_bounds h hc, fun _ => eq_of_mem_dropLast_chunkSizes h⟩

-- A read whose chunks are all acknowledged (R234, R235, R237)

/-- The requests of an inline-offset read ask for the chunks in order (R235). -/
theorem inlineRead_sizes (type cmd : Byte) (total start chunk : Nat) :
    (inlineRead type cmd total start chunk).map ReadItem.size = (chunkSizes total chunk).map some := by
  calc (inlineRead type cmd total start chunk).map ReadItem.size
      = ((chunkSizes total chunk).zipIdx.map Prod.fst).map some := by
        simp only [inlineRead, chunkSpans, List.map_map]
        rfl
    _ = (chunkSizes total chunk).map some := by rw [List.zipIdx_map_fst]

/-- The length-only requests ask for the chunks in order (R234). -/
theorem map_lengthOnlyRead_sizes (sizes : List Nat) : (sizes.map lengthOnlyRead).map ReadItem.size = sizes.map some :=
  List.map_map

/-- A read whose requests are all acknowledged in the sizes asked for adds the payloads to what it has, in request order, under
every policy (R237). -/
theorem foldl_readAfter_acks {total : Nat} {payloads : List (List Byte)} {items : List ReadItem} {got : List Byte}
    (hsize : items.map ReadItem.size = (payloads.map List.length).map some)
    (htotal : (got ++ payloads.flatten).length = total) :
    (payloads.map TxResult.ack).foldl (readAfter total) (continueRead total got items) = .done (got ++ payloads.flatten) := by
  induction payloads generalizing items got with
  | nil =>
    rw [List.map_eq_nil_iff.mp hsize, List.flatten_nil, List.append_nil] at *
    exact continueRead_nil htotal
  | cons payload payloads ih =>
    obtain ⟨item, todo, rfl, hitem, htodo⟩ := List.map_eq_cons_iff.mp hsize
    obtain ⟨request, size⟩ := item
    subst hitem
    rw [List.flatten_cons, ← List.append_assoc] at *
    rw [continueRead_cons, List.map_cons, List.foldl_cons, readAfter_ack rfl]
    exact ih htodo htotal

/-- Settles O57: both conventions ask for the same chunks, and the positioning acknowledge adds no data. -/
theorem readReturnsTheConcatenation : Obligations.ReadReturnsTheConcatenation := by
  intro type cmd positionOf total start chunk payloads p h _ hlen
  have htotal : payloads.flatten.length = total := by
    rw [List.length_flatten, hlen, chunkSizes_sum h]
  constructor
  · exact foldl_readAfter_acks (by rw [inlineRead_sizes, hlen]) htotal
  · rw [streamRead_of_pos h, startRead, continueRead_cons, List.foldl_cons, readAfter_position]
    exact foldl_readAfter_acks (by rw [map_lengthOnlyRead_sizes, hlen]) htotal

-- A read with a failure (R238)

/-- Settles O58: the failure aborts the read, and an aborted read stays aborted. -/
theorem readAbortsAtTheFirstFailure : Obligations.ReadAbortsAtTheFirstFailure := by
  intro total got todo r rs hr
  have hst : (r :: rs).foldl (readAfter total) (.running got todo) = .aborted (some r) := by
    rw [List.foldl_cons, readAfter_failure hr, foldl_readAfter_aborted]
  exact ⟨hst, congrArg ReadStatus.next hst⟩

-- The polls after a written chunk (R246, R247, R263)

/-- A poll that is answered with a nack or not at all: one of the ten (R246, log entry 32). -/
def TxResult.FailsPoll (r : TxResult) : Prop := (∃ c p, r = .nack c p) ∨ ∃ c, r = .noResponse c

theorem writeAfter_failsPoll {r : TxResult} (h : r.FailsPoll) (failed : List TxResult) (todo : List Request) :
    writeAfter (.polling failed todo) r = pollFailed failed r todo := by
  obtain ⟨c, p, rfl⟩ | ⟨c, rfl⟩ := h <;> rfl

theorem pollFailed_of_few {failed : List TxResult} (h : failed.length + 1 < 10) (r : TxResult) (todo : List Request) :
    pollFailed failed r todo = .polling (failed ++ [r]) todo := if_pos h

/-- Fewer than ten failed polls leave the write polling (R246). -/
theorem foldl_writeAfter_fewPolls {polls failed : List TxResult} (h : ∀ r ∈ polls, r.FailsPoll)
    (hlen : (failed ++ polls).length < 10) (todo : List Request) :
    polls.foldl writeAfter (.polling failed todo) = .polling (failed ++ polls) todo := by
  induction polls generalizing failed with
  | nil => rw [List.append_nil, List.foldl_nil]
  | cons r polls ih =>
    obtain ⟨hr, hpolls⟩ := List.forall_mem_cons.mp h
    rw [List.append_cons] at *
    have hfew : failed.length + 1 < 10 := by
      rw [List.length_append, List.length_append, List.length_singleton] at hlen
      omega
    rw [List.foldl_cons, writeAfter_failsPoll hr, pollFailed_of_few hfew]
    exact ih hpolls hlen

/-- The tenth failed poll decides how the write ends; what follows it changes nothing. -/
theorem foldl_writeAfter_tenPolls {first rest : List TxResult} {r : TxResult} (hfirst : ∀ q ∈ first, q.FailsPoll)
    (hr : r.FailsPoll) (hlen : first.length = 9) (todo : List Request) :
    (first ++ r :: rest).foldl writeAfter (.polling [] todo) = pollFailed first r todo := by
  have hnine : first.foldl writeAfter (.polling [] todo) = .polling first todo :=
    foldl_writeAfter_fewPolls hfirst (by simp [hlen]) todo
  rw [List.foldl_append, hnine, List.foldl_cons, writeAfter_failsPoll hr]
  obtain ⟨hlt, -⟩ | ⟨-, hend⟩ | ⟨-, -, hend⟩ := pollFailed_cases first r todo
  · omega
  · rw [hend, foldl_writeAfter_busyTimeout]
  · rw [hend, foldl_writeAfter_aborted]

/-- After the tenth failed poll nothing more is issued (R247, R263). -/
theorem pollFailed_next {failed : List TxResult} (h : 10 ≤ failed.length + 1) (r : TxResult) (todo : List Request)
    (type cmd : Byte) : (pollFailed failed r todo).next type cmd = none := by
  obtain ⟨hlt, -⟩ | ⟨-, hend⟩ | ⟨-, -, hend⟩ := pollFailed_cases failed r todo
  · omega
  · rw [hend]; rfl
  · rw [hend]; rfl

/-- Ten polls or more are nine, the tenth and the rest. -/
theorem exists_tenth {α : Type} {l : List α} (h : 10 ≤ l.length) :
    ∃ first x rest, l = first ++ x :: rest ∧ first.length = 9 :=
  ⟨l.take 9, l[9], l.drop 10, by rw [List.cons_getElem_drop_succ, List.take_append_drop], by simp; omega⟩

/-- Settles O59: nine failed polls are recorded, and the tenth ends the write. -/
theorem tenNegativePollsEndTheWrite : Obligations.TenNegativePollsEndTheWrite := by
  intro type cmd todo polls hfail
  refine ⟨fun hfew => ⟨foldl_writeAfter_fewPolls (failed := []) hfail hfew todo, rfl, fun _ => rfl⟩, fun hmany => ?_⟩
  obtain ⟨first, r, rest, rfl, hlen⟩ := exists_tenth hmany
  have hend := foldl_writeAfter_tenPolls (rest := rest) (fun q hq => hfail q (by simp [hq])) (hfail r (by simp)) hlen todo
  constructor
  · rw [hend]
    exact pollFailed_next (by omega) r todo type cmd
  · intro hnack
    rw [hend]
    refine pollFailed_of_nacks (by omega) (List.all_eq_true.mpr fun q hq => hnack q ?_) todo
    rw [List.append_cons]
    exact List.mem_append_left rest hq

-- The downstream EDID flow (R256 to R261)

/-- The selectors 1 and 2 are the only ones with an output (R256). -/
theorem outputOf_eq_none (selector : Nat) : outputOf selector = none ↔ selector ≠ 1 ∧ selector ≠ 2 := by
  unfold outputOf
  split <;> simp_all

theorem startEdid_eq_none (selector : Nat) (planFor : Output → EdidPlan) :
    startEdid selector planFor = none ↔ selector ≠ 1 ∧ selector ≠ 2 :=
  Option.map_eq_none_iff.trans (outputOf_eq_none selector)

/-- The flow starts with the probe of the output that was selected (R257). -/
theorem startEdid_eq_some {selector : Nat} {planFor : Output → EdidPlan} {plan : EdidPlan} {st : EdidStatus}
    (h : startEdid selector planFor = some (plan, st)) : outputOf selector = some plan.output ∧ st = .probing := by
  obtain ⟨o, ho, heq⟩ := Option.map_eq_some_iff.mp h
  cases heq
  exact ⟨ho, rfl⟩

/-- The command of a control request is one of the two of R221 and R222. -/
theorem controlRequest_cmd (o : Output) (payload : List Byte) :
    (o.controlRequest payload).cmd = if o.takesFirst .control then 0x10 else 0x70 := rfl

theorem controlRequest_cmd_cases (o : Output) (payload : List Byte) :
    (o.controlRequest payload).cmd = 0x10 ∨ (o.controlRequest payload).cmd = 0x70 := by
  rw [controlRequest_cmd]
  split
  · exact .inl rfl
  · exact .inr rfl

/-- The two outputs have different control registers (R225). -/
theorem controlRequest_cmd_ne (payload : List Byte) :
    (Output.one.controlRequest payload).cmd ≠ (Output.two.controlRequest payload).cmd := by
  rw [controlRequest_cmd, controlRequest_cmd, takesFirst_two]
  cases Output.one.takesFirst .control <;> decide

/-- A probe acknowledged with anything but one byte, or not acknowledged, ends the flow (R257). -/
theorem edidAfter_probing_failure {r : TxResult} (h : ∀ b, r ≠ .ack [b]) (plan : EdidPlan) :
    edidAfter plan .probing r = .inputNotPresent := by
  match r, h with
  | .ack [b], h => exact absurd rfl (h b)
  | .ack [], _ | .ack (_ :: _ :: _), _ => rfl
  | .nack _ _, _ | .noResponse _, _ | .frameLengthError _, _ | .badRequest _, _ => rfl

theorem edidAfter_switching_ack {r : TxResult} (h : r.isAck = true) (plan : EdidPlan) (v : Byte) :
    edidAfter plan (.switching v) r = afterSwitch plan v := if_pos h

theorem edidAfter_switching_failure {r : TxResult} (h : r.isAck = false) (plan : EdidPlan) (v : Byte) :
    edidAfter plan (.switching v) r = .setFailed := if_neg (by simp [h])

theorem edidAfter_reading {plan : EdidPlan} {v : Byte} {read : ReadStatus} {r : TxResult} :
    edidAfter plan (.reading v read) r = afterRead v (readAfter 256 read r) := rfl

/-- The bulk read goes on, or the flow restores the register (R260). -/
theorem afterRead_cases (v : Byte) (st : ReadStatus) :
    (∃ read, afterRead v st = .reading v read) ∨ ∃ got, afterRead v st = .restoring v got := by
  cases st with
  | running got todo => exact .inl ⟨_, rfl⟩
  | done bytes => exact .inr ⟨_, rfl⟩
  | aborted first => exact .inr ⟨_, rfl⟩

theorem edidAfter_reading_failure {r : TxResult} (h : r.isAck = false) (plan : EdidPlan) (v : Byte) (got : List Byte)
    (todo : List ReadItem) : edidAfter plan (.reading v (.running got todo)) r = .restoring v none := by
  rw [edidAfter_reading, readAfter_failure h]
  rfl

theorem edidAfter_reading_done {read : ReadStatus} {r : TxResult} {bytes : List Byte}
    (h : readAfter 256 read r = .done bytes) (plan : EdidPlan) (v : Byte) :
    edidAfter plan (.reading v read) r = .restoring v (some bytes) := by
  rw [edidAfter_reading, h]
  rfl

/-- An acknowledged restore gives the bytes that were read, whatever a failed one would mean (R261). -/
theorem edidAfter_restoring_ack {r : TxResult} (h : r.isAck = true) (plan : EdidPlan) (v : Byte) (bytes : List Byte) :
    edidAfter plan (.restoring v (some bytes)) r = .done bytes :=
  if_pos (by simp [h])

/-- Settles O60: the start, the control registers of the two outputs, and then the flow step by step. -/
theorem edidFlowAlwaysRestores : Obligations.EdidFlowAlwaysRestores := by
  refine ⟨fun selector planFor => ⟨startEdid_eq_none selector planFor, fun plan st h => ?start⟩,
    fun o payload => ⟨rfl, controlRequest_cmd_cases o payload⟩, controlRequest_cmd_ne, fun plan v read r => ?steps⟩
  case start =>
    obtain ⟨ho, rfl⟩ := startEdid_eq_some h
    exact ⟨ho, rfl, rfl⟩
  case steps =>
    refine ⟨rfl, fun h => edidAfter_probing_failure h plan, rfl, fun h => ?switched,
      fun h => edidAfter_switching_failure h plan v, afterRead_cases v (readAfter 256 read r), fun _ => rfl,
      fun h got todo hread => ?failed, fun _ h => edidAfter_reading_done h plan v, rfl,
      fun bytes h => edidAfter_restoring_ack h plan v bytes⟩
    case switched =>
      rw [edidAfter_switching_ack h]
      exact ⟨fun _ hbulk => afterSwitch_of_some hbulk v, fun hbulk => afterSwitch_of_none hbulk v⟩
    case failed =>
      rw [hread]
      exact edidAfter_reading_failure h plan v got todo

end Sys2Proof.Machine
end

section
/-! PROOFS. The family of the exceptions (60_exceptions.md): every state has a next one (R62, R282); every report of an
operation or of a transaction's end is one of the observable pairs and agrees with the response registers (R158, R277), so every
step keeps the invariant of the engine. -/

namespace Sys2Proof.Machine

-- No step stops (R62, R282)

theorem engineMove_answers (e : EngineMove) (s : State) : ∃ t, engineMove e s = .next t := by
  cases e with
  | send => exact ⟨_, sendStep_eq s⟩
  | take =>
    obtain ⟨d, ds, -, -, h⟩ | ⟨-, h⟩ := takeStep_cases s
    · exact ⟨_, h⟩
    · exact ⟨_, h⟩
  | tick | expire | expireUntimed => exact ⟨_, rfl⟩

theorem performMove_answers (m : Move) (s : State) : ∃ t, performMove m s = .next t := by
  cases m with
  | write a v => exact hostWrite_answers a v s
  | engine e => exact engineMove_answers e s
  | statusWriteWith v e => exact engineMove_answers e (s.writeStatus v)
  | read _ | deliver _ | reset _ | idle => exact ⟨_, rfl⟩

/-- Settles O44: the pending move answers, and so does the quiet one. -/
theorem everyStateSteps : Obligations.EveryStateSteps := by
  intro s
  cases hi : s.inputs with
  | nil =>
    rw [step_nil hi]
    exact performMove_answers _ s
  | cons m ms =>
    rw [step_cons hi]
    exact performMove_answers m _

-- The observable pairs (R34, R277)

/-- The pair is observable, and `LEN_EDGE` only under `reject` (R277). -/
def LegalReport (r : Result) (c : Cause) : Prop :=
  legalPair r c = true ∧ (c = .lenEdge → Config.lenEdgePolicy = .reject)

theorem legalReport_packet (p : Packet) : LegalReport p.result .none := by
  unfold Packet.result
  split
  · exact ⟨rfl, nofun⟩
  · exact ⟨rfl, nofun⟩

theorem legalReport_shapeError {d : Delivery} {e : ShapeError}
    (h : packetDecode Config.lenEdgePolicy d = .frameLengthError e) : LegalReport .frameLengthError e.cause := by
  cases e with
  | rxSize => exact ⟨rfl, nofun⟩
  | lenField => exact ⟨rfl, nofun⟩
  | lenEdge =>
    refine ⟨rfl, fun _ => ?_⟩
    obtain ⟨-, he⟩ | ⟨-, -, he⟩ | ⟨-, -, -, hreject, -⟩ | ⟨-, -, -, -, he⟩ | ⟨-, -, -, -, he⟩ :=
      packetDecode_cases Config.lenEdgePolicy d
    case inr.inr.inl => exact hreject
    all_goals exact absurd (h.symm.trans he) nofun

theorem legalReport_requestCause {s : State} {c : Cause} (h : s.requestCause = some c) : LegalReport .badRequest c := by
  obtain ⟨hc, -⟩ | ⟨hc, -⟩ | ⟨hc, -⟩ := s.requestCause_cases <;> cases h.symm.trans hc
  · exact ⟨rfl, nofun⟩
  · exact ⟨rfl, nofun⟩

-- The payload of an accepted packet (R31, R157)

theorem eq_packetFields_of_packetDecode_ok {policy : LenEdgePolicy} {d : Delivery} {p : Packet}
    (h : packetDecode policy d = .ok p) : p = packetFields d := by
  obtain ⟨hsize, hfield, hsum⟩ := checks_of_packetDecode_ok h
  rw [packetDecode_of_lenFieldPasses hsize hfield, if_pos hsum] at h
  exact (DecodeResult.ok.inj h).symm

theorem payload_length_of_packetDecode_ok {policy : LenEdgePolicy} {d : Delivery} {p : Packet}
    (h : packetDecode policy d = .ok p) : p.payload.length ≤ 61 := by
  rw [eq_packetFields_of_packetDecode_ok h]
  exact packetFields_payload_length d

/-- A payload of 61 bytes needs a length field of 62 or 63, which only `clamp` lets pass (R31, R157). -/
theorem clamp_of_full_payload {policy : LenEdgePolicy} {d : Delivery} {p : Packet} (h : packetDecode policy d = .ok p)
    (hfull : p.payload.length = 61) : policy = .clamp := by
  obtain ⟨hsize, ⟨hfield, hedge⟩, -⟩ := checks_of_packetDecode_ok h
  rw [eq_packetFields_of_packetDecode_ok h, packetFields_payload hsize, List.length_take] at hfull
  cases policy with
  | clamp => rfl
  | reject => exact absurd ⟨lenEdgeValue_eq_true.mpr (by omega), rfl⟩ hedge

-- The response registers beside a result (R30, R32, R158)

/-- The response registers are those of some packet: at most 61 bytes of payload, 61 only under `clamp`, and zeros beyond
(R31, R32, R158). -/
def State.responseFits (s : State) : Prop :=
  s.rspPlen.toNat ≤ 61 ∧ (s.rspPlen.toNat = 61 → Config.lenEdgePolicy = .clamp) ∧
    ∀ i : Fin 61, s.rspPlen.toNat ≤ i.val → s.rspPayload[i] = 0

/-- The response registers may stand beside the result `r`. -/
def State.responseAgrees (r : Result) (s : State) : Prop :=
  s.responseFits ∧ (r = .ack → s.rspAck = true) ∧ (r = .nack → s.rspAck = false) ∧
    (r = .noResponse ∨ r = .frameLengthError ∨ r = .noPacket → s.responseClear)

theorem State.responseInv_iff (s : State) : s.responseInv ↔ s.responseAgrees s.result := by
  simp only [State.responseInv, State.responseAgrees, State.responseFits, and_assoc]

theorem State.responseClear_clearResponse (s : State) : s.clearResponse.responseClear :=
  ⟨rfl, rfl, rfl, rfl, rfl⟩

theorem State.responseFits_of_clear {s : State} (h : s.responseClear) : s.responseFits := by
  obtain ⟨-, -, -, hplen, hpayload⟩ := h
  simp [State.responseFits, hplen, hpayload]

theorem State.responseFits_writeResponse {d : Delivery} {p : Packet} (h : packetDecode Config.lenEdgePolicy d = .ok p)
    (s : State) : (s.writeResponse p).responseFits := by
  have hlen := payload_length_of_packetDecode_ok h
  have hplen : (s.writeResponse p).rspPlen.toNat = p.payload.length := by
    rw [State.writeResponse_rspPlen, BitVec.toNat_ofNat]
    omega
  rw [State.responseFits, hplen]
  refine ⟨hlen, clamp_of_full_payload h, fun i hi => ?_⟩
  rw [State.writeResponse_rspPayload, Fin.getElem_fin, fit_getElem, List.getD_eq_default _ _ hi]

/-- Clear response registers may stand beside any result but `ACK`. -/
theorem State.responseAgrees_of_clear {r : Result} {s : State} (h : s.responseClear) (hr : r ≠ .ack) :
    s.responseAgrees r := by
  have ⟨_, _, hack, _, _⟩ := h
  exact ⟨responseFits_of_clear h, fun heq => absurd heq hr, fun _ => hack, fun _ => h⟩

/-- An operation that decodes nothing leaves the response registers as they were (R134, R177). -/
theorem State.responseAgrees_of_fits {r : Result} {s : State} (h : s.responseFits) (hr : r = .encoded ∨ r = .badRequest) :
    s.responseAgrees r := by
  obtain rfl | rfl := hr
  · exact ⟨h, nofun, nofun, nofun⟩
  · exact ⟨h, nofun, nofun, nofun⟩

theorem State.responseAgrees_writeResponse {d : Delivery} {p : Packet} (h : packetDecode Config.lenEdgePolicy d = .ok p)
    (s : State) : (s.writeResponse p).responseAgrees p.result := by
  have hfits := responseFits_writeResponse h s
  unfold Packet.result
  split
  case isTrue hack => exact ⟨hfits, fun _ => hack, nofun, nofun⟩
  case isFalse hnack => exact ⟨hfits, nofun, fun _ => Bool.eq_false_iff.mpr hnack, nofun⟩

-- The invariant at each update of the state

/-- In `IDLE` the invariant is what it says about the report and the response registers. -/
theorem State.inv_of_idle {s : State} (hs : s.phase = .idle) (hreport : s.reportInv) (hresponse : s.responseInv) : s.Inv :=
  ⟨hreport, fun h => absurd hs h, hresponse, fun hw => nomatch hs.symm.trans hw⟩

theorem State.inv_raise {r : Result} {c : Cause} {s : State} (hs : s.phase = .idle) (hreport : LegalReport r c)
    (hresponse : s.responseAgrees r) : (s.raise r c).Inv :=
  inv_of_idle hs hreport ((s.raise r c).responseInv_iff.mpr hresponse)

theorem State.inv_finish {r : Result} {c : Cause} {s : State} (hreport : LegalReport r c) (hresponse : s.responseAgrees r) :
    (s.finish r c).Inv :=
  inv_raise (s := { s with phase := .idle }) rfl hreport hresponse

theorem State.inv_reportDecoded {s : State} (hs : s.phase = .idle) (hclear : s.responseClear) (d : Delivery) :
    (s.reportDecoded (packetDecode Config.lenEdgePolicy d)).Inv := by
  obtain ⟨p, hp, h⟩ | ⟨-, h⟩ | ⟨e, he, h⟩ := s.reportDecoded_cases (packetDecode Config.lenEdgePolicy d) <;> rw [h]
  · exact inv_raise hs (legalReport_packet p) (responseAgrees_writeResponse hp s)
  · exact inv_raise hs ⟨rfl, nofun⟩ (responseAgrees_of_clear hclear nofun)
  · exact inv_raise hs (legalReport_shapeError he) (responseAgrees_of_clear hclear nofun)

theorem State.inv_takeDelivery {s : State} (hclear : s.responseClear) (d : Delivery) : (s.takeDelivery d).Inv := by
  obtain ⟨p, hp, h⟩ | ⟨-, h⟩ | ⟨e, he, -, h⟩ | ⟨-, h⟩ := s.takeDelivery_cases d <;> rw [h]
  · exact inv_finish (legalReport_packet p) (responseAgrees_writeResponse hp _)
  · exact inv_finish ⟨rfl, nofun⟩ (responseAgrees_of_clear hclear nofun)
  · exact inv_finish (legalReport_shapeError he) (responseAgrees_of_clear hclear nofun)
  · exact inv_finish ⟨rfl, nofun⟩ (responseAgrees_of_clear hclear nofun)

/-- An accepted start sets up all that the invariant says of a transaction in flight (R176). -/
theorem State.inv_startTransaction {s : State} (h : s.requestCause = none) : s.startTransaction.Inv := by
  have hclear : s.startTransaction.responseClear := ⟨rfl, rfl, rfl, rfl, rfl⟩
  exact ⟨⟨rfl, nofun⟩, fun _ => ⟨rfl, rfl, rfl, hclear, ⟨rfl, rfl⟩, h, rfl⟩,
    (State.responseInv_iff _).mpr (responseAgrees_of_clear hclear nofun), nofun⟩

theorem State.inv_hardReset (taken : Bool) (s : State) : (s.hardReset taken).Inv :=
  resetMeetsTheInvariant

section
variable {s : State} (h : s.Inv)
include h

theorem State.Inv.responseFits : s.responseFits := by
  obtain ⟨-, -, hresponse, -⟩ := h
  exact (s.responseInv_iff.mp hresponse).1

theorem State.Inv.responseClear_of_flight (hs : s.phase ≠ .idle) : s.responseClear := by
  obtain ⟨-, hflight, -, -⟩ := h
  obtain ⟨-, -, -, hclear, -⟩ := hflight hs
  exact hclear

/-- The host may clear `STATUS` bits in every phase; in flight `DONE` is clear already (R36). -/
theorem State.Inv.writeStatus (v : Byte) : (s.writeStatus v).Inv := by
  obtain ⟨hreport, hflight, hresponse, htimer⟩ := h
  refine ⟨hreport, fun hs => ?_, hresponse, htimer⟩
  obtain ⟨hresult, hcause, hdone, hrest⟩ := hflight hs
  exact ⟨hresult, hcause, by rw [State.writeStatus_done, hdone, Bool.false_and], hrest⟩

/-- The host's operand registers are no part of what the invariant says of `IDLE` (R73). -/
theorem State.Inv.storeLocation (hs : s.phase = .idle) (l : Location) (v : Byte) : (s.storeLocation l v).Inv := by
  obtain ⟨hreport, -, hresponse, -⟩ := h
  refine inv_of_idle (by simp [hs]) ?_ ?_
  · simpa [State.reportInv] using hreport
  · simpa [State.responseInv, State.responseClear] using hresponse

/-- The transport takes the frame, and the timer is loaded with the timeout (R181, R182). -/
theorem State.Inv.sendFrame (hs : s.phase = .send) (f : Frame) : (s.sendFrame f).Inv := by
  obtain ⟨hreport, hflight, hresponse, -⟩ := h
  exact ⟨hreport, fun _ => hflight (by simp [hs]), hresponse, fun _ => le_rfl⟩

/-- The timer runs down, never below 0 (R187). -/
theorem State.Inv.tick (hs : s.phase = .wait) (h0 : s.timer ≠ 0) : State.Inv { s with timer := s.timer - 1 } := by
  obtain ⟨hreport, hflight, hresponse, htimer⟩ := h
  refine ⟨hreport, hflight, hresponse, fun _ => ?_⟩
  have hloaded := htimer hs
  show (s.timer - 1).toNat ≤ s.timeoutMs.toNat
  bv_omega

end

-- The invariant through each move: a move that writes only `OVR`, `RXQ` or the model's own fields touches nothing it mentions

theorem writeCtrl_inv {v : Byte} {s t : State} (hs : s.Inv) (h : writeCtrl v s = .next t) : t.Inv := by
  obtain ⟨-, rfl⟩ | ⟨-, -, rfl⟩ | ⟨-, -, hreq, rfl⟩ | ⟨-, hidle, -, rfl⟩ | ⟨-, hidle, c, hc, rfl⟩ | ⟨-, hidle, rfl⟩ |
    ⟨-, hidle, rfl⟩ := writeCtrl_next h
  · exact hs
  · exact hs
  · exact State.inv_startTransaction hreq
  · exact State.inv_raise hidle ⟨rfl, nofun⟩ (State.responseAgrees_of_fits hs.responseFits (.inl rfl))
  · exact State.inv_raise hidle (legalReport_requestCause hc) (State.responseAgrees_of_fits hs.responseFits (.inr rfl))
  · exact State.inv_reportDecoded (s := s.clearResponse) hidle s.responseClear_clearResponse _
  · exact State.inv_raise hidle ⟨rfl, nofun⟩ (State.responseAgrees_of_fits hs.responseFits (.inr rfl))

theorem hostWrite_inv {a : BitVec 9} {v : Byte} {s t : State} (hs : s.Inv) (h : hostWrite a v s = .next t) : t.Inv := by
  obtain ⟨-, hw⟩ | ⟨-, rfl⟩ | ⟨-, -, rfl⟩ | ⟨-, hidle, rfl⟩ | rfl := hostWrite_next h
  · exact writeCtrl_inv hs hw
  · exact hs.writeStatus v
  · exact hs
  · exact hs.storeLocation hidle _ v
  · exact hs

theorem engineMove_inv {e : EngineMove} {s t : State} (hs : s.Inv) (h : engineMove e s = .next t) : t.Inv := by
  obtain rfl | ⟨-, hsend, rfl⟩ | ⟨-, hwait, d, ds, -, rfl⟩ | ⟨-, hwait, h0, rfl⟩ | ⟨-, hwait, -, rfl⟩ := engineMove_next h
  · exact hs
  · exact hs.sendFrame hsend _
  · exact State.inv_takeDelivery (s := { s with rxq := ds }) (hs.responseClear_of_flight (by simp [hwait])) d
  · exact hs.tick hwait h0
  · exact State.inv_finish ⟨rfl, nofun⟩
      (State.responseAgrees_of_clear (hs.responseClear_of_flight (by simp [hwait])) nofun)

theorem performMove_inv {m : Move} {s t : State} (hs : s.Inv) (h : performMove m s = .next t) : t.Inv := by
  obtain rfl | ⟨a, -, rfl⟩ | ⟨a, v, -, hw⟩ | ⟨e, -, he⟩ | ⟨v, e, -, he⟩ | ⟨d, -, rfl⟩ | ⟨taken, -, rfl⟩ :=
    performMove_next h
  · exact hs
  · exact hs
  · exact hostWrite_inv hs hw
  · exact engineMove_inv hs he
  · exact engineMove_inv (hs.writeStatus v) he
  · exact hs
  · exact s.inv_hardReset taken

/-- Settles O45: the invariant asks nothing of the pending moves, and every move keeps it. -/
theorem stepKeepsTheInvariant : Obligations.StepKeepsTheInvariant := by
  intro s t hs h
  obtain ⟨m, ms, -, hm⟩ | ⟨-, hm⟩ := step_next h
  · exact performMove_inv (s := { s with inputs := ms }) hs hm
  · exact performMove_inv hs hm

end Sys2Proof.Machine
end

section
/-! PROOFS. The family of reset and the hazards (70_reset_and_hazards.md): reset puts the engine at its reset values and leaves
the transport its queue (R310, R312); a send without a ready transport hangs, whatever else the agents do short of reset
(R322). -/

namespace Sys2Proof.Machine

-- Reset (R48, R310, R312)

/-- No bit of `STATUS` is set after reset. -/
theorem State.statusByte_hardReset (taken : Bool) (s : State) : (s.hardReset taken).statusByte = 0x00 := by
  have hreset : (s.hardReset taken).statusByte = State.reset.statusByte := rfl
  rw [hreset]
  decide

/-- The transport's log gets the offered frame exactly when reset comes in `SEND` and the move says that it was taken (U14). -/
theorem State.hardReset_txlog_eq (taken : Bool) (s : State) :
    (s.hardReset taken).txlog = if taken = true ∧ s.phase = .send then s.txlog ++ [s.txbuf] else s.txlog := by
  simp only [State.hardReset_eq, Bool.and_eq_true, State.txValid_eq_true]

/-- Settles O43: the engine's elements are those of the reset state; the log is the one part that asks for the phase. -/
theorem resetClearsTheEngine : Obligations.ResetClearsTheEngine := by
  intro s taken
  have hlog : (s.hardReset taken).txlog = s.txlog ∨
      (s.phase = .send ∧ taken = true ∧ (s.hardReset taken).txlog = s.txlog ++ [s.txbuf]) := by
    rw [State.hardReset_txlog_eq]
    split
    case isTrue h => exact .inr ⟨h.2, h.1, rfl⟩
    case isFalse => exact .inl rfl
  exact ⟨_, rfl, rfl, rfl, rfl, rfl, rfl, rfl, rfl, rfl, rfl, rfl, rfl, rfl, s.statusByte_hardReset taken,
    rfl, rfl, rfl, rfl, rfl, rfl, hlog⟩

-- The hanging send (R178, R322)

/-- The move is none of those that end a send: the transport taking the frame, alone or beside a host write to `STATUS`, and
reset. -/
def Move.KeepsSend (m : Move) : Prop :=
  m ≠ .engine .send ∧ (∀ v, m ≠ .statusWriteWith v .send) ∧ ∀ taken, m ≠ .reset taken

/-- In `SEND` only the send step of the engine is enabled (R172). -/
theorem engineMove_of_send {e : EngineMove} {s t : State} (hs : s.phase = .send) (he : e ≠ .send)
    (h : engineMove e s = .next t) : t = s := by
  obtain rfl | ⟨rfl, -⟩ | ⟨-, hw, -⟩ | ⟨-, hw, -⟩ | ⟨-, hw, -⟩ := engineMove_next h
  · rfl
  · exact absurd rfl he
  all_goals exact absurd (hs.symm.trans hw) nofun

/-- In `SEND` a host write does nothing, is refused, or clears bits of `STATUS` (R36, R72, R73). -/
theorem hostWrite_of_send {a : BitVec 9} {v : Byte} {s t : State} (hs : s.phase = .send) (h : hostWrite a v s = .next t) :
    t = s ∨ t = s.refuseBusy ∨ t = s.writeStatus v := by
  obtain ⟨-, hw⟩ | ⟨-, rfl⟩ | ⟨-, -, rfl⟩ | ⟨-, hidle, -⟩ | rfl := hostWrite_next h
  · obtain ⟨-, rfl⟩ | ⟨-, -, rfl⟩ | ⟨-, hidle, -⟩ | ⟨-, hidle, -⟩ | ⟨-, hidle, -⟩ | ⟨-, hidle, -⟩ | ⟨-, hidle, -⟩ :=
      writeCtrl_next hw
    · exact .inl rfl
    · exact .inr (.inl rfl)
    all_goals exact absurd (hs.symm.trans hidle) nofun
  · exact .inr (.inr rfl)
  · exact .inr (.inl rfl)
  · exact absurd (hs.symm.trans hidle) nofun
  · exact .inl rfl

/-- Everything that a move which does not end the send can do in `SEND`: what the host read, the flags of `STATUS` and the
queue are all that it reaches. -/
theorem performMove_of_send {m : Move} {s t : State} (hs : s.phase = .send) (hm : m.KeepsSend)
    (h : performMove m s = .next t) :
    t = s ∨ (∃ b, t = { s with hostData := b }) ∨ t = s.refuseBusy ∨ (∃ v, t = s.writeStatus v) ∨ ∃ d, t = s.deliver d := by
  obtain ⟨hsend, hwith, hreset⟩ := hm
  obtain rfl | ⟨a, -, rfl⟩ | ⟨a, v, -, hw⟩ | ⟨e, rfl, he⟩ | ⟨v, e, rfl, he⟩ | ⟨d, -, rfl⟩ | ⟨taken, rfl, -⟩ :=
    performMove_next h
  · exact .inl rfl
  · exact .inr (.inl ⟨_, rfl⟩)
  · obtain rfl | rfl | rfl := hostWrite_of_send hs hw
    · exact .inl rfl
    · exact .inr (.inr (.inl rfl))
    · exact .inr (.inr (.inr (.inl ⟨v, rfl⟩)))
  · exact .inl (engineMove_of_send hs (fun heq => hsend (by rw [heq])) he)
  · exact .inr (.inr (.inr (.inl ⟨v,
      engineMove_of_send (s := s.writeStatus v) hs (fun heq => hwith v (by rw [heq])) he⟩)))
  · exact .inr (.inr (.inr (.inr ⟨d, rfl⟩)))
  · exact absurd rfl (hreset taken)

/-- `t` is still in the send of `s`: in `SEND` with the same frame offered, nothing sent and `DONE` not set. -/
structure State.SendHangs (s t : State) : Prop where
  phase : t.phase = .send
  done : s.done = false → t.done = false
  txlog : t.txlog = s.txlog
  txbuf : t.txbuf = s.txbuf

theorem State.SendHangs.refl {s : State} (hs : s.phase = .send) : s.SendHangs s :=
  ⟨hs, id, rfl, rfl⟩

theorem State.SendHangs.trans {s t u : State} (hst : s.SendHangs t) (htu : t.SendHangs u) : s.SendHangs u :=
  ⟨htu.phase, htu.done ∘ hst.done, htu.txlog.trans hst.txlog, htu.txbuf.trans hst.txbuf⟩

theorem performMove_sendHangs {m : Move} {s t : State} (hs : s.phase = .send) (hm : m.KeepsSend)
    (h : performMove m s = .next t) : s.SendHangs t ∧ t.inputs = s.inputs := by
  obtain rfl | ⟨b, rfl⟩ | rfl | ⟨v, rfl⟩ | ⟨d, rfl⟩ := performMove_of_send hs hm h
  case inr.inr.inr.inl => exact ⟨⟨hs, fun hd => by rw [State.writeStatus_done, hd, Bool.false_and], rfl, rfl⟩, rfl⟩
  all_goals exact ⟨⟨hs, id, rfl, rfl⟩, rfl⟩

/-- One step of a hanging send; with no move pending nothing happens, as the transport is not ready (log entry 3). -/
theorem step_sendHangs {s t : State} (hs : s.phase = .send) (hin : ∀ m ∈ s.inputs, m.KeepsSend) (h : step s = .next t) :
    s.SendHangs t ∧ ∀ m ∈ t.inputs, m.KeepsSend := by
  obtain ⟨m, ms, hi, hm⟩ | ⟨hi, hm⟩ := step_next h
  · rw [hi] at hin
    obtain ⟨hhangs, hkept⟩ := performMove_sendHangs (s := { s with inputs := ms }) hs (hin m List.mem_cons_self) hm
    exact ⟨⟨hhangs.phase, hhangs.done, hhangs.txlog, hhangs.txbuf⟩,
      fun n hn => hin n (List.mem_cons_of_mem m (by rwa [hkept] at hn))⟩
  · obtain ⟨-, hq⟩ | ⟨hw, -⟩ := quietMove_cases s
    · rw [hq] at hm
      cases hm
      exact ⟨.refl hs, hin⟩
    · exact absurd (hs.symm.trans hw) nofun

/-- However many steps a hanging send takes, it hangs. -/
theorem run_sendHangs {k : Nat} {s : State} (hs : s.phase = .send) (hin : ∀ m ∈ s.inputs, m.KeepsSend) :
    ∃ t, Host.Core.run core k s = .next t ∧ s.SendHangs t := by
  induction k generalizing s with
  | zero => exact ⟨s, rfl, .refl hs⟩
  | succ k ih =>
    obtain ⟨t, ht⟩ := everyStateSteps s
    obtain ⟨hhangs, hin'⟩ := step_sendHangs hs hin ht
    obtain ⟨u, hu, hhangs'⟩ := ih hhangs.phase hin'
    exact ⟨u, (run_succ ht k).trans hu, hhangs.trans hhangs'⟩

/-- Settles O52: the run hangs in `SEND`, and `BUSY` is 1 in every phase but `IDLE`. -/
theorem sendHangsWithoutTheTransport : Obligations.SendHangsWithoutTheTransport := by
  intro s k hs hin
  obtain ⟨t, ht, hhangs⟩ := run_sendHangs (k := k) hs hin
  have hbusy : t.statusByte.getLsbD 0 = true :=
    (t.statusByte_getLsbD 0).trans (t.busy_eq_true.mpr (by simp [hhangs.phase]))
  exact ⟨t, ht, hhangs.phase, hbusy, hhangs.done, hhangs.txlog, hhangs.txbuf⟩

end Sys2Proof.Machine
end

section
/-! PROOFS. The family of the ports where they are not ready: a frame presented to one stays where it is (R80, R81, log entry
15). -/

namespace Sys2Proof.Machine

/-- Settles O21: outside `SEND` the transport takes no frame, and outside `WAIT` the delivery goes back to the head of `RXQ`. -/
theorem frameAtAClosedPort : Obligations.FrameAtAClosedPort := by
  refine fun i s => ⟨fun hp hs => ?_, fun hp hw => ?_⟩
  · rw [exec_of_port_transmit hp, State.transmit_of_not_send hs]
  · rw [exec_of_port_receive hp, State.receive_of_not_wait hw]

end Sys2Proof.Machine
end
